-- ==== Sys2Proof/Word.lean ====
section
/-! DEFINITION. The word types of the block: bytes of a frame and the 16- and 32-bit fields (spec 00_scope R11). -/

namespace Sys2Proof

/-- A byte of a frame, 0..255 (R11). -/
abbrev Byte := BitVec 8

/-- A 16-bit field: an opcode, a length, a raw scaled value (R38). -/
abbrev Word16 := BitVec 16

/-- A 32-bit port field: `cmd_delay` (R76). Position and value ports have the configured widths of R10 and carry integers. -/
abbrev Word32 := BitVec 32

end Sys2Proof
end

