-- ==== Sys2Proof/Syntax.lean ====
section
/-! DEFINITION. The instructions, one constructor per row of spec/opcode_table.json, and the shapes of their operands
and results. -/

namespace Sys2Proof

/-- A channel, "identity: integer id in 1, 2, 3" (R14). -/
inductive Chan where
  | ch1
  | ch2
  | ch3
deriving DecidableEq, Repr

/-- A rational number as an exact quotient, kept unreduced (R100, R106). -/
structure Ratio where
  num : Int
  den : Nat
  den_pos : 0 < den
deriving DecidableEq, Repr

/-- The second operand of a scaler unit: "an integer >= 1" (R103 to R106). 0 cannot be presented. -/
structure Maximum where
  val : Nat
  val_pos : 0 < val
deriving DecidableEq, Repr

/-- The four error kinds (R160). -/
inductive ErrorKind where
  | invalidChannel
  | outOfRange
  | preconditionNotMet
  | transportFailure
deriving DecidableEq, Repr

/-- The fields DECODE returns (R87). -/
structure Header where
  opcode  : Word16
  p1      : Byte
  p2      : Byte
  dest    : Byte
  src     : Byte
  payload : List Byte
deriving DecidableEq, Repr

/-- What a command or a function unit returns, exactly (R12 `return v`, R144, R78). -/
inductive Result where
  | nothing
  | bool (b : Bool)
  | byte (b : Byte)
  | int (v : Int)
  | ratio (q : Ratio)
  | bytes (bs : List Byte)
  | header (h : Header)
deriving DecidableEq, Repr

/-- The instructions. Operands are the fields of the row's encoding: of a wire frame the bits its row leaves free
(R60, R67), of a command the port fields it uses (R76), of a function unit the operands of its signature (R78). -/
inductive Instr where
  -- wire frames, block to device (R67); `ci` is p1, `dest` bits 6:0 of offset 4
  | frameIdentify (p1 p2 : Byte)
  | frameEnable (ci : Byte) (dest : BitVec 7)
  | frameDisable (ci : Byte) (dest : BitVec 7)
  | frameReqEnable (ci p2 : Byte) (dest : BitVec 7)
  | frameSetMode (ci p2 : Byte) (dest : BitVec 7)
  | frameReqMode (ci p2 : Byte) (dest : BitVec 7)
  | frameReqVolt (ci p2 : Byte) (dest : BitVec 7)
  | frameReqPos (ci p2 : Byte) (dest : BitVec 7)
  | frameZero (ci p2 : Byte) (dest : BitVec 7)
  | frameSetVolt (dest : BitVec 7) (ci hi : Byte) (value : Word16)
  | frameSetPos (dest : BitVec 7) (ci hi : Byte) (value : Word16)
  -- wire frames, device to block (R58, R59)
  | reply6 (b0 b1 b2 b3 b4 b5 : Byte)
  | reply10 (b0 b1 b2 b3 b4 b5 b6 b7 b8 b9 : Byte)
  -- commands (R77)
  | identify
  | enable (ch : Byte)
  | disable (ch : Byte)
  | setMode (ch : Byte) (closedLoop : Bool)
  | zero (ch : Byte)
  | pollZero (ch : Byte)
  | position (ch : Byte) (pos : Int)
  | getPosition (ch : Byte)
  | setVolt (ch : Byte) (volts : Int)
  | getVolt (ch : Byte)
  | rampVolt (ch : Byte) (target : Int) (steps : Word16) (delayMs : Word32)
  | shutdown
  | getMode (ch : Byte)
  | getEnable (ch : Byte)
  -- reserved select codes (R78)
  | reserved0E
  | reserved0F
  -- function units (R78)
  | encodeShort (opcode : Word16) (p1 p2 dest src : Byte)
  | encodeLong (opcode : Word16) (dest src : Byte) (payload : List Byte)
  | decodeRaw (raw : List Byte)
  | pos2Scaled (pos : Int) (max : Maximum)
  | scaled2Pos (raw : Word16) (max : Maximum)
  | volt2Scaled (volts : Ratio) (max : Maximum)
  | scaled2Volt (raw : Word16) (max : Maximum)
  | bayAddr (ch : Byte)
  | int2b1 (v : Int)
  | int2b2 (v : Int)
  | b2u16 (b0 b1 : Byte)
  | b2i16 (b0 b1 : Byte)
  | reserved1C
  | reserved1D
  | reserved1E
  | reserved1F
deriving DecidableEq, Repr

/-- The operand ports of the function units: "whatever their signatures need" (R78). -/
structure UnitPorts where
  opcode : Word16
  p1     : Byte
  p2     : Byte
  dest   : Byte
  src    : Byte
  bytes  : List Byte
  int    : Int
  volts  : Ratio
  max    : Maximum
  raw    : Word16
  b0     : Byte
  b1     : Byte
deriving DecidableEq, Repr

/-- The record on the command port (R76), with the operand ports of the function units beside it (R78). `cmd_val` is
`VAL_W` bits, a parameter (R10): here an integer, of which the decoder reads the port's bits. -/
structure CmdRecord where
  op    : BitVec 5
  ch    : Byte
  val   : Int
  steps : Word16
  delay : Word32
  ports : UnitPorts
deriving DecidableEq, Repr

/-- An instruction as it stands at a port of the block: a command record, a wire frame to the device, a wire frame
from the device. The two directions are told apart by the stream, never by the bits (R72). -/
inductive Encoded where
  | command (r : CmdRecord)
  | toDevice (bs : List Byte)
  | fromDevice (bs : List Byte)
deriving DecidableEq, Repr

end Sys2Proof
end

