-- ==== Sys2Proof/Config.lean ====
section
/-! DEFINITION. The parameters of the block (spec 00_scope R10), their default values, the constants of R9, and the
free value of the model. -/

namespace Sys2Proof

/-- What `round` does with an exact tie: the default of R101 and the alternatives D16 names (93 U17: a parameter). -/
inductive TieRule where
  | halfEven
  | halfUp
  | halfAway
deriving DecidableEq, Repr

/-- The quantiser `QV` of R111: `floor` is the spec's; "`QV` is a named parameter of the model". -/
inductive Quantiser where
  | floor
  | ceiling
  | towardZero
  | nearestEven
deriving DecidableEq, Repr

/-- The configuration inputs, "sampled at reset" (R205), fixed until the next reset (R10, R22, R28). -/
structure Config where
  /-- `POS_W`, width of the position port and of `CFG_MAX_POS` in bits (R10, R15). -/
  posW           : Nat
  /-- `VAL_W`, width of the value ports and of `CFG_MAX_VOLT` in bits (R10, R15, R76). -/
  valW           : Nat
  maxPos         : Nat
  maxVolt        : Nat
  /-- `VOLT_UNIT` in microvolts; the formulas depend only on the ratio to the maximum (R105), so no rule reads it. -/
  voltUnitMicroV : Nat
  chanIdent1     : Int
  chanIdent2     : Int
  chanIdent3     : Int
  identP1        : Byte
  identP2        : Byte
  enCode         : Int
  disCode        : Int
  modeCodeOpen   : Int
  modeCodeClosed : Int
  queryP2        : Int
  shutSteps      : Word16
  shutDelayMs    : Word32
  qv             : Quantiser
  tie            : TieRule
deriving DecidableEq, Repr

/-- The spec's system of record (R10). DESIGN CHOICE (log entry 8): `SHUT_STEPS` and `SHUT_DELAY_MS` are OPEN there;
2 and 100 are the values of program P4 of the test vectors. -/
def Config.default : Config where
  posW           := 32
  valW           := 32
  maxPos         := 30000
  maxVolt        := 75000
  voltUnitMicroV := 1000
  chanIdent1     := 1
  chanIdent2     := 1
  chanIdent3     := 1
  identP1        := 0x00
  identP2        := 0x00
  enCode         := 1
  disCode        := 2
  modeCodeOpen   := 3
  modeCodeClosed := 4
  queryP2        := 0
  shutSteps      := 2
  shutDelayMs    := 100
  qv             := .floor
  tie            := .halfEven

/-- Free value (DESIGN CHOICE, log entry 9): what `rsp_val` carries, as far as its width goes, where the spec states
no integer of that width for the result; applied to the length of the history, so that two reports need not agree. -/
opaque Config.freeRspVal : Nat → Result → Int

/-- R9. -/
abbrev FULL_SCALE : Int := 32767
/-- R9. -/
abbrev SCALED_MIN : Int := -32768
/-- R9. -/
abbrev SCALED_MAX : Int := 32767
/-- R9. -/
abbrev STATUS_REPLY_LEN : Nat := 6
/-- R9. -/
abbrev VALUE_REPLY_LEN : Nat := 10

end Sys2Proof
end

