-- ==== Sys2Proof/Machine/Operands.lean ====
section
/-! DEFINITION. The pure part of the block: the wire constants, the Frame Codec's builders and conversions (spec
40_frame_codec), the Unit Scaler's formulas (41_unit_scaler), the Channel Registry (42_channel_registry), the legal
configurations. No state is read or written here (R93, R25). -/

namespace Sys2Proof.Machine

/-! ### Constants of the wire (R9, R37, R63) -/

/-- `HOST`, the source byte of every frame the block sends (R37, R68). -/
def hostAddr : Byte := 0x01
/-- `CONTROLLER`, the address of the whole unit (R37). -/
def controllerAddr : Byte := 0x50
/-- `DATA_BIT` (R37). -/
def dataBit : Byte := 0x80
/-- `STATUS_CLOSED_LOOP` (R9, R126); not the mode code SETMODE sends (R201). -/
def statusClosedLoop : Byte := 0x02
/-- R63. -/
def opIdentify : Word16 := 0x0223
/-- R63: enable/disable. -/
def opEnable : Word16 := 0x0210
/-- R63. -/
def opQueryEnable : Word16 := 0x0211
/-- R63. -/
def opSetMode : Word16 := 0x0640
/-- R63. -/
def opQueryMode : Word16 := 0x0641
/-- R63. -/
def opSetVoltage : Word16 := 0x0643
/-- R63. -/
def opQueryVoltage : Word16 := 0x0644
/-- R63. -/
def opSetPosition : Word16 := 0x0646
/-- R63. -/
def opQueryPosition : Word16 := 0x0647
/-- R63. -/
def opZero : Word16 := 0x0658

/-! ### Bytes and fields (R12, R38, R61, R62) -/

/-- The low byte of a 16-bit field. -/
def lo (w : Word16) : Byte := w.setWidth 8
/-- The high byte of a 16-bit field. -/
def hi (w : Word16) : Byte := (w >>> 8).setWidth 8
/-- `le16(v)` (R12). -/
def le16 (w : Word16) : List Byte := [lo w, hi w]
/-- The 16-bit field whose low-order byte is `b0` (R38, R61). -/
def word16 (b0 b1 : Byte) : Word16 := b1 ++ b0
/-- `tc8(s)`, for `s` in -128..127 (R12). -/
def tc8 (s : Int) : Byte := BitVec.ofInt 8 s
/-- `tc16(s)`, for `s` in -32768..32767 (R12). -/
def tc16 (s : Int) : Word16 := BitVec.ofInt 16 s

/-- The integer is one that a signed port of `w` bits carries (R10, R76). -/
def fitsSigned (w : Nat) (v : Int) : Bool := decide (-(2 ^ w : Int) ≤ 2 * v) && decide (2 * v < (2 ^ w : Int))
/-- What a signed two's complement port of `w` bits carries of an integer: its low `w` bits (R76). -/
def portSigned (w : Nat) (v : Int) : Int := v.bmod (2 ^ w)

/-- B2U16 (R90): `b0 + 256*b1`. -/
def b2u16 (b0 b1 : Byte) : Int := (b0.toNat : Int) + 256 * (b1.toNat : Int)
/-- B2I16 (R91). -/
def b2i16 (b0 b1 : Byte) : Int :=
  if b2u16 b0 b1 < 32768 then b2u16 b0 b1 else b2u16 b0 b1 - 65536

/-- INT2B1 (R88), as the one byte it returns. -/
def int2b1 (s : Int) : Except ErrorKind Byte :=
  if s < -128 ∨ s > 127 then .error .outOfRange else .ok (tc8 s)
/-- INT2B2 (R89). -/
def int2b2 (s : Int) : Except ErrorKind (List Byte) :=
  if s < SCALED_MIN ∨ s > SCALED_MAX then .error .outOfRange else .ok (le16 (tc16 s))

/-! ### Frames (R56, R57, R85 to R87) -/

/-- ENCODE_SHORT (R85). -/
def encodeShort (opcode : Word16) (p1 p2 dest src : Byte) : List Byte :=
  [lo opcode, hi opcode, p1, p2, dest, src]

/-- ENCODE_LONG (R86); a payload whose length does not fit 16 bits is `OutOfRange` (U3). -/
def encodeLong (opcode : Word16) (dest src : Byte) (payload : List Byte) : Except ErrorKind (List Byte) :=
  if payload.length > 65535 then .error .outOfRange
  else .ok ([lo opcode, hi opcode, lo (BitVec.ofNat 16 payload.length), hi (BitVec.ofNat 16 payload.length),
    dest ||| dataBit, src] ++ payload)

/-- DECODE (R87); `none` for fewer than six bytes, which is outside its domain (U1). -/
def decodeHeader : List Byte → Option Header
  | o0 :: o1 :: p1 :: p2 :: dest :: src :: payload => some ⟨word16 o0 o1, p1, p2, dest, src, payload⟩
  | _ => none

/-- The status byte of a REPLY6: offset 3, every other byte unchecked (R58, R74). -/
def statusByte (raw : List Byte) : Byte := raw.getD 3 0
/-- The low value byte of a REPLY10: offset 8 (R59). -/
def valueLo (raw : List Byte) : Byte := raw.getD 8 0
/-- The high value byte of a REPLY10: offset 9 (R59). -/
def valueHi (raw : List Byte) : Byte := raw.getD 9 0

/-- A frame as the transport port carries it: `tx_data` with `tx_last` on the last byte (R205). -/
def txSignal : List Byte → List (Byte × Bool)
  | [] => []
  | [b] => [(b, true)]
  | b :: bs => (b, false) :: txSignal bs

/-! ### Rounding and scaling (R100 to R106, R111) -/

/-- `floor(n/d)`, `d > 0` (R102). -/
def floorQ (n : Int) (d : Nat) : Int := n / (d : Int)

/-- The nearest integer to `n/d`, `d > 0`; an exact tie by the rule given (R101: half to even, the default). -/
def roundQ (tie : TieRule) (n : Int) (d : Nat) : Int :=
  let f := n / (d : Int)
  let r := n % (d : Int)
  if 2 * r < d then f
  else if 2 * r > d then f + 1
  else match tie with
    | .halfEven => if f % 2 = 0 then f else f + 1
    | .halfUp => f + 1
    | .halfAway => if 0 ≤ n then f + 1 else f

/-- `QV` (R111). -/
def quantise (qv : Quantiser) (q : Ratio) : Int :=
  match qv with
  | .floor => floorQ q.num q.den
  | .ceiling => -floorQ (-q.num) q.den
  | .towardZero => q.num.tdiv q.den
  | .nearestEven => roundQ .halfEven q.num q.den

/-- The ScaledValue invariant (R103, R105): outside -32768..32767 the scaler raises `OutOfRange`. -/
def checkScaled (s : Int) : Except ErrorKind Int :=
  if s < SCALED_MIN ∨ s > SCALED_MAX then .error .outOfRange else .ok s

/-- POS2SCALED (R103). -/
def posToScaled (tie : TieRule) (pos : Int) (max : Nat) : Except ErrorKind Int :=
  checkScaled (roundQ tie (pos * FULL_SCALE) max)

/-- SCALED2POS (R104). -/
def scaledToPos (raw : Int) (max : Nat) : Int := floorQ (raw * max) 32767

/-- VOLT2SCALED (R105) of the rational `num/den` volts: `(num/den) * 32767 / max`, rounded once. -/
def voltToScaled (tie : TieRule) (num : Int) (den : Nat) (max : Nat) : Except ErrorKind Int :=
  checkScaled (roundQ tie (num * FULL_SCALE) (den * max))

/-- SCALED2VOLT (R106): exact, not rounded. -/
def scaledToVolt (raw : Int) (max : Nat) : Ratio := ⟨raw * max, 32767, by decide⟩

/-- Numerator of the ramp's set-point `i` of `n`, over the denominator `32767 * n` (R150, R151). -/
def setPointNum (raw target : Int) (max n i : Nat) : Int :=
  raw * max * ((n : Int) - i) + 32767 * target * i

/-! ### Channel Registry (R115) -/

/-- The channel with that id. -/
def chanOf (id : Int) : Option Chan :=
  if id = 1 then some .ch1 else if id = 2 then some .ch2 else if id = 3 then some .ch3 else none

/-- `BAY[c]`, a table of three entries (R115, R117). -/
def bay : Chan → Byte
  | .ch1 => 0x21
  | .ch2 => 0x22
  | .ch3 => 0x23

/-- BAYADDR (R115). -/
def bayAddress (id : Int) : Except ErrorKind Byte :=
  match chanOf id with
  | some c => .ok (bay c)
  | none => .error .invalidChannel

/-- The channels after `c` in the order of SHUTDOWN (R152). -/
def chansAfter : Chan → List Chan
  | .ch1 => [.ch2, .ch3]
  | .ch2 => [.ch3]
  | .ch3 => []

/-! ### Configuration (R10, R22, U7, U15) -/

/-- `CHAN_IDENT(c)`. -/
def chanIdent (cfg : Config) : Chan → Int
  | .ch1 => cfg.chanIdent1
  | .ch2 => cfg.chanIdent2
  | .ch3 => cfg.chanIdent3

/-- The integer fits the signed one-byte field (R64). -/
def fitsByte (s : Int) : Bool := decide (-128 ≤ s) && decide (s ≤ 127)

/-- A configuration the spec admits: maxima at least 1 (R22, U7), parameter bytes in -128..127 (R88, U15),
`CHAN_IDENT(1) = 0x01` (R10), `SHUT_STEPS >= 1` (R10), maxima that the registers of `POS_W` and `VAL_W` bits hold (R15;
log entry 21). -/
def configLegal (cfg : Config) : Bool :=
  cfg.maxPos != 0 && cfg.maxVolt != 0 && cfg.chanIdent1 == 1 && fitsByte cfg.chanIdent2 && fitsByte cfg.chanIdent3
    && fitsByte cfg.enCode && fitsByte cfg.disCode && fitsByte cfg.modeCodeOpen && fitsByte cfg.modeCodeClosed
    && fitsByte cfg.queryP2 && cfg.shutSteps != 0
    && decide (cfg.maxPos < 2 ^ cfg.posW) && decide (cfg.maxVolt < 2 ^ cfg.valW)

/-! ### The frames of a channel (R67 to R70) -/

/-- A short frame of a channel: p1 the channel ident byte, p2 the code given, both through the signed one-byte
check, destination the bay (R68, R69, R70). -/
def shortFrame (cfg : Config) (opcode : Word16) (c : Chan) (p2 : Int) : Except ErrorKind (List Byte) :=
  match int2b1 (chanIdent cfg c) with
  | .error e => .error e
  | .ok ci => match int2b1 p2 with
    | .error e => .error e
    | .ok p => .ok (encodeShort opcode ci p (bay c) hostAddr)

/-- A long frame of a channel: payload `ci 00 lo hi` (R66, R67). -/
def longFrame (cfg : Config) (opcode : Word16) (c : Chan) (scaled : Int) : Except ErrorKind (List Byte) :=
  match int2b1 (chanIdent cfg c) with
  | .error e => .error e
  | .ok ci => match int2b2 scaled with
    | .error e => .error e
    | .ok v => encodeLong opcode (bay c) hostAddr ([ci, 0x00] ++ v)

/-! ### The eleven frames the block sends (R67, R73) -/

/-- The channels (R14). -/
def allChans : List Chan := [.ch1, .ch2, .ch3]

/-- The short frames of a channel, opcode and second parameter (R67, R70). -/
def shortRows (cfg : Config) : List (Word16 × Int) :=
  [(opEnable, cfg.enCode), (opEnable, cfg.disCode), (opQueryEnable, cfg.queryP2), (opSetMode, cfg.modeCodeOpen),
    (opSetMode, cfg.modeCodeClosed), (opQueryMode, cfg.queryP2), (opQueryVoltage, cfg.queryP2),
    (opQueryPosition, cfg.queryP2), (opZero, cfg.queryP2)]

/-- The opcodes of the long frames of a channel (R67). -/
def longRows : List Word16 := [opSetVoltage, opSetPosition]

/-- The builder gave exactly these bytes. -/
def isBuilt (bs : List Byte) : Except ErrorKind (List Byte) → Bool
  | .ok f => f == bs
  | .error _ => false

/-- One of the eleven frames of R67 with the parameters of the configuration, a long one with a scaled value in
0..32767: "The block sends only the eleven frames of rule R67" (R73). -/
def isListedFrame (cfg : Config) (bs : List Byte) : Bool :=
  bs == encodeShort opIdentify cfg.identP1 cfg.identP2 controllerAddr hostAddr ||
    (allChans.any fun c => (shortRows cfg).any fun r => isBuilt bs (shortFrame cfg r.1 c r.2)) ||
    (decide ((word16 (valueLo bs) (valueHi bs)).toNat ≤ 32767) && allChans.any fun c => longRows.any fun op =>
      isBuilt bs (longFrame cfg op c ((word16 (valueLo bs) (valueHi bs)).toNat : Int)))

end Sys2Proof.Machine
end

