-- ==== Sys2Proof/WellFormed.lean ====
section
/-! DEFINITION. Which instructions the spec admits: the frames the block may send (R67, R73) and the domain of DECODE
(R87). Everything else a port can carry is well formed: a channel of 4 or a position of -5 is an ordinary operand that
the command reports as an error. -/

namespace Sys2Proof

/-- Bits 6:0 of the destination byte of a frame for a channel: one of `BAY[1..3]` (R37, R73). -/
def isBay (dest : BitVec 7) : Bool :=
  dest == 0x21 || dest == 0x22 || dest == 0x23

/-- The payload of a long frame: high ident byte `0x00` (R66), scaled value in 0..32767 (R67, R108). -/
def isPayload (hi : Byte) (value : Word16) : Bool :=
  hi == 0x00 && decide (value.toNat ≤ 32767)

/-- The instruction's operands are ones the spec admits. -/
def Instr.wellFormed : Instr → Bool
  | .frameIdentify _ _ => true
  | .frameEnable _ dest => isBay dest
  | .frameDisable _ dest => isBay dest
  | .frameReqEnable _ _ dest => isBay dest
  | .frameSetMode _ _ dest => isBay dest
  | .frameReqMode _ _ dest => isBay dest
  | .frameReqVolt _ _ dest => isBay dest
  | .frameReqPos _ _ dest => isBay dest
  | .frameZero _ _ dest => isBay dest
  | .frameSetVolt dest _ hi value => isBay dest && isPayload hi value
  | .frameSetPos dest _ hi value => isBay dest && isPayload hi value
  | .reply6 _ _ _ _ _ _ => true
  | .reply10 _ _ _ _ _ _ _ _ _ _ => true
  | .identify => true
  | .enable _ => true
  | .disable _ => true
  | .setMode _ _ => true
  | .zero _ => true
  | .pollZero _ => true
  | .position _ _ => true
  | .getPosition _ => true
  | .setVolt _ _ => true
  | .getVolt _ => true
  | .rampVolt _ _ _ _ => true
  | .shutdown => true
  | .getMode _ => true
  | .getEnable _ => true
  | .reserved0E => true
  | .reserved0F => true
  | .encodeShort _ _ _ _ _ => true
  | .encodeLong _ _ _ _ => true
  | .decodeRaw raw => decide (6 ≤ raw.length)
  | .pos2Scaled _ _ => true
  | .scaled2Pos _ _ => true
  | .volt2Scaled _ _ => true
  | .scaled2Volt _ _ => true
  | .bayAddr _ => true
  | .int2b1 _ => true
  | .int2b2 _ => true
  | .b2u16 _ _ => true
  | .b2i16 _ _ => true
  | .reserved1C => true
  | .reserved1D => true
  | .reserved1E => true
  | .reserved1F => true

end Sys2Proof
end

