-- ==== Sys2Proof/Decode.lean ====
section
/-! DEFINITION. The decoder, total on whatever stands at a port, rejecting by name; the encoder after it; the rows of
the opcode table as masks over the header number `H` (spec 30_encoding R60). -/

namespace Sys2Proof

open Machine

/-- Why the bytes at a port are no instruction. -/
inductive DecodeError where
  /-- A frame to the device that is neither 6 bytes nor 6 + length bytes with the data-packet bit (R71, R73). -/
  | frameShape
  /-- A frame to the device that matches none of the eleven rows of R67 (R73). -/
  | unknownFrame
  /-- A reply that is neither 6 nor 10 bytes (R55, R72). -/
  | replyLength
deriving DecidableEq, Repr

/-! ### Fields of a wire frame -/

/-- The data-packet bit, bit 7 of offset 4 (R56). -/
def isLongDest (dest : Byte) : Bool := dest.getLsbD 7
/-- Bits 6:0 of offset 4 (R56). -/
def destField (dest : Byte) : BitVec 7 := dest.setWidth 7
/-- The destination byte of a short frame: data-packet bit 0 (R56). -/
def shortDest (dest : BitVec 7) : Byte := dest.setWidth 8
/-- The destination byte of a long frame: data-packet bit 1 (R57). -/
def longDest (dest : BitVec 7) : Byte := dest.setWidth 8 ||| dataBit

/-- The short frames of R67. ENABLE and DISABLE share an opcode and are told apart by p2, which is the
configuration's `EN_CODE` or `DIS_CODE` (R70). -/
def decodeShort (cfg : Config) (opcode : Word16) (p1 p2 dest src : Byte) : Except DecodeError Instr :=
  if src != hostAddr || isLongDest dest then .error .unknownFrame
  else if opcode == opIdentify then
    if dest == controllerAddr then .ok (.frameIdentify p1 p2) else .error .unknownFrame
  else if opcode == opEnable then
    if p2 == tc8 cfg.enCode then .ok (.frameEnable p1 (destField dest))
    else if p2 == tc8 cfg.disCode then .ok (.frameDisable p1 (destField dest))
    else .error .unknownFrame
  else if opcode == opQueryEnable then .ok (.frameReqEnable p1 p2 (destField dest))
  else if opcode == opSetMode then .ok (.frameSetMode p1 p2 (destField dest))
  else if opcode == opQueryMode then .ok (.frameReqMode p1 p2 (destField dest))
  else if opcode == opQueryVoltage then .ok (.frameReqVolt p1 p2 (destField dest))
  else if opcode == opQueryPosition then .ok (.frameReqPos p1 p2 (destField dest))
  else if opcode == opZero then .ok (.frameZero p1 p2 (destField dest))
  else .error .unknownFrame

/-- The long frames of R67: length 4, payload `ci hi lo hi` (R66). -/
def decodeLong (opcode len : Word16) (dest src ci hiByte v0 v1 : Byte) : Except DecodeError Instr :=
  if src != hostAddr || !isLongDest dest || len != 4 then .error .unknownFrame
  else if opcode == opSetVoltage then .ok (.frameSetVolt (destField dest) ci hiByte (word16 v0 v1))
  else if opcode == opSetPosition then .ok (.frameSetPos (destField dest) ci hiByte (word16 v0 v1))
  else .error .unknownFrame

/-- The signed value on `cmd_val`, `VAL_W` bits (R76). -/
def cmdValue (cfg : Config) (r : CmdRecord) : Int := portSigned cfg.valW r.val

/-- The position on `cmd_val`, a signed integer of `POS_W` bits on the port (R103). -/
def cmdPosition (cfg : Config) (r : CmdRecord) : Int := portSigned cfg.posW (cmdValue cfg r)

/-- A command record (R76): the select code of R77 and R78 picks the instruction, fields it does not use are
ignored. Five bits have 32 values: the last case is `0x1F`. -/
def decodeCommand (cfg : Config) (r : CmdRecord) : Instr :=
  match r.op.toNat with
  | 0x00 => .identify
  | 0x01 => .enable r.ch
  | 0x02 => .disable r.ch
  | 0x03 => .setMode r.ch (cmdValue cfg r % 2 == 1)
  | 0x04 => .zero r.ch
  | 0x05 => .pollZero r.ch
  | 0x06 => .position r.ch (cmdPosition cfg r)
  | 0x07 => .getPosition r.ch
  | 0x08 => .setVolt r.ch (cmdValue cfg r)
  | 0x09 => .getVolt r.ch
  | 0x0A => .rampVolt r.ch (cmdValue cfg r) r.steps r.delay
  | 0x0B => .shutdown
  | 0x0C => .getMode r.ch
  | 0x0D => .getEnable r.ch
  | 0x0E => .reserved0E
  | 0x0F => .reserved0F
  | 0x10 => .encodeShort r.ports.opcode r.ports.p1 r.ports.p2 r.ports.dest r.ports.src
  | 0x11 => .encodeLong r.ports.opcode r.ports.dest r.ports.src r.ports.bytes
  | 0x12 => .decodeRaw r.ports.bytes
  | 0x13 => .pos2Scaled r.ports.int r.ports.max
  | 0x14 => .scaled2Pos r.ports.raw r.ports.max
  | 0x15 => .volt2Scaled r.ports.volts r.ports.max
  | 0x16 => .scaled2Volt r.ports.raw r.ports.max
  | 0x17 => .bayAddr r.ch
  | 0x18 => .int2b1 r.ports.int
  | 0x19 => .int2b2 r.ports.int
  | 0x1A => .b2u16 r.ports.b0 r.ports.b1
  | 0x1B => .b2i16 r.ports.b0 r.ports.b1
  | 0x1C => .reserved1C
  | 0x1D => .reserved1D
  | 0x1E => .reserved1E
  | _ => .reserved1F

/-- The instruction at a port. `EN_CODE`, `DIS_CODE` and the port widths come from the configuration. -/
def decode (cfg : Config) : Encoded → Except DecodeError Instr
  | .command r => .ok (decodeCommand cfg r)
  | .toDevice [o0, o1, p1, p2, dest, src] => decodeShort cfg (word16 o0 o1) p1 p2 dest src
  | .toDevice [o0, o1, l0, l1, dest, src, ci, h, v0, v1] =>
      decodeLong (word16 o0 o1) (word16 l0 l1) dest src ci h v0 v1
  | .toDevice _ => .error .frameShape
  | .fromDevice [b0, b1, b2, b3, b4, b5] => .ok (.reply6 b0 b1 b2 b3 b4 b5)
  | .fromDevice [b0, b1, b2, b3, b4, b5, b6, b7, b8, b9] => .ok (.reply10 b0 b1 b2 b3 b4 b5 b6 b7 b8 b9)
  | .fromDevice _ => .error .replyLength

/-! ### Encoding -/

/-- The operand ports at rest: every port at its least value that its type admits, six zero bytes on the byte-string
port (DESIGN CHOICE, log entry 4). -/
def UnitPorts.rest : UnitPorts where
  opcode := 0
  p1 := 0
  p2 := 0
  dest := 0
  src := 0
  bytes := [0, 0, 0, 0, 0, 0]
  int := 0
  volts := ⟨0, 1, by decide⟩
  max := ⟨1, by decide⟩
  raw := 0
  b0 := 0
  b1 := 0

/-- The command record with select code `op` and nothing else on the port. -/
def CmdRecord.bare (op : BitVec 5) : CmdRecord := ⟨op, 0, 0, 0, 0, UnitPorts.rest⟩

/-- A record that carries a channel only. -/
def CmdRecord.onChan (op : BitVec 5) (ch : Byte) : CmdRecord := { CmdRecord.bare op with ch := ch }

/-- A record that carries a channel and a value. -/
def CmdRecord.withVal (op : BitVec 5) (ch : Byte) (val : Int) : CmdRecord :=
  { CmdRecord.bare op with ch := ch, val := val }

/-- A function unit's record. -/
def CmdRecord.onUnit (op : BitVec 5) (ports : UnitPorts) : CmdRecord := { CmdRecord.bare op with ports := ports }

/-- A long frame with its 4-byte payload (R57, R66). -/
def longBytes (opcode : Word16) (dest : BitVec 7) (ci hiByte : Byte) (value : Word16) : List Byte :=
  [lo opcode, hi opcode, 0x04, 0x00, longDest dest, hostAddr, ci, hiByte, lo value, hi value]

/-- The bytes or the record of an instruction, from the same tables: R67 for wire frames, R58 and R59 for replies, R76
to R78 for commands and function units. -/
def encode (cfg : Config) : Instr → Encoded
  | .frameIdentify p1 p2 => .toDevice (encodeShort opIdentify p1 p2 controllerAddr hostAddr)
  | .frameEnable ci dest => .toDevice (encodeShort opEnable ci (tc8 cfg.enCode) (shortDest dest) hostAddr)
  | .frameDisable ci dest => .toDevice (encodeShort opEnable ci (tc8 cfg.disCode) (shortDest dest) hostAddr)
  | .frameReqEnable ci p2 dest => .toDevice (encodeShort opQueryEnable ci p2 (shortDest dest) hostAddr)
  | .frameSetMode ci p2 dest => .toDevice (encodeShort opSetMode ci p2 (shortDest dest) hostAddr)
  | .frameReqMode ci p2 dest => .toDevice (encodeShort opQueryMode ci p2 (shortDest dest) hostAddr)
  | .frameReqVolt ci p2 dest => .toDevice (encodeShort opQueryVoltage ci p2 (shortDest dest) hostAddr)
  | .frameReqPos ci p2 dest => .toDevice (encodeShort opQueryPosition ci p2 (shortDest dest) hostAddr)
  | .frameZero ci p2 dest => .toDevice (encodeShort opZero ci p2 (shortDest dest) hostAddr)
  | .frameSetVolt dest ci h value => .toDevice (longBytes opSetVoltage dest ci h value)
  | .frameSetPos dest ci h value => .toDevice (longBytes opSetPosition dest ci h value)
  | .reply6 b0 b1 b2 b3 b4 b5 => .fromDevice [b0, b1, b2, b3, b4, b5]
  | .reply10 b0 b1 b2 b3 b4 b5 b6 b7 b8 b9 => .fromDevice [b0, b1, b2, b3, b4, b5, b6, b7, b8, b9]
  | .identify => .command (.bare 0x00)
  | .enable ch => .command (.onChan 0x01 ch)
  | .disable ch => .command (.onChan 0x02 ch)
  | .setMode ch closed => .command (.withVal 0x03 ch (if closed then 1 else 0))
  | .zero ch => .command (.onChan 0x04 ch)
  | .pollZero ch => .command (.onChan 0x05 ch)
  | .position ch pos => .command (.withVal 0x06 ch pos)
  | .getPosition ch => .command (.onChan 0x07 ch)
  | .setVolt ch volts => .command (.withVal 0x08 ch volts)
  | .getVolt ch => .command (.onChan 0x09 ch)
  | .rampVolt ch target steps delay =>
      .command { CmdRecord.withVal 0x0A ch target with steps := steps, delay := delay }
  | .shutdown => .command (.bare 0x0B)
  | .getMode ch => .command (.onChan 0x0C ch)
  | .getEnable ch => .command (.onChan 0x0D ch)
  | .reserved0E => .command (.bare 0x0E)
  | .reserved0F => .command (.bare 0x0F)
  | .encodeShort opcode p1 p2 dest src =>
      .command (.onUnit 0x10 { UnitPorts.rest with opcode := opcode, p1 := p1, p2 := p2, dest := dest, src := src })
  | .encodeLong opcode dest src payload =>
      .command (.onUnit 0x11 { UnitPorts.rest with opcode := opcode, dest := dest, src := src, bytes := payload })
  | .decodeRaw raw => .command (.onUnit 0x12 { UnitPorts.rest with bytes := raw })
  | .pos2Scaled pos max => .command (.onUnit 0x13 { UnitPorts.rest with int := pos, max := max })
  | .scaled2Pos raw max => .command (.onUnit 0x14 { UnitPorts.rest with raw := raw, max := max })
  | .volt2Scaled volts max => .command (.onUnit 0x15 { UnitPorts.rest with volts := volts, max := max })
  | .scaled2Volt raw max => .command (.onUnit 0x16 { UnitPorts.rest with raw := raw, max := max })
  | .bayAddr ch => .command (.onChan 0x17 ch)
  | .int2b1 v => .command (.onUnit 0x18 { UnitPorts.rest with int := v })
  | .int2b2 v => .command (.onUnit 0x19 { UnitPorts.rest with int := v })
  | .b2u16 b0 b1 => .command (.onUnit 0x1A { UnitPorts.rest with b0 := b0, b1 := b1 })
  | .b2i16 b0 b1 => .command (.onUnit 0x1B { UnitPorts.rest with b0 := b0, b1 := b1 })
  | .reserved1C => .command (.bare 0x1C)
  | .reserved1D => .command (.bare 0x1D)
  | .reserved1E => .command (.bare 0x1E)
  | .reserved1F => .command (.bare 0x1F)

/-- The instruction's operands are ones that the configured port widths carry: "the port has exactly that width" (R85),
`VAL_W` bits of `cmd_val`, and of these `POS_W` for a position (R10, R76, R103). -/
def Instr.presentable (cfg : Config) : Instr → Bool
  | .setMode _ _ => decide (1 ≤ cfg.valW)
  | .position _ pos => fitsSigned cfg.valW pos && fitsSigned cfg.posW pos
  | .setVolt _ volts => fitsSigned cfg.valW volts
  | .rampVolt _ target _ _ => fitsSigned cfg.valW target
  | _ => true

/-! ### The opcode table's masks (R60) -/

/-- `H`, the header as one number: the byte at offset `i` in bits `8i+7 : 8i` (R60). -/
def headerNumber : List Byte → Option (BitVec 48)
  | b0 :: b1 :: b2 :: b3 :: b4 :: b5 :: _ => some (b5 ++ b4 ++ b3 ++ b2 ++ b1 ++ b0)
  | _ => none

/-- What a row of the table matches: the header number of a wire frame and its length in bytes, a select code, or a
reply's length alone (R60, R74, R77, R78). -/
inductive RowKey where
  | header (mask key : BitVec 48) (len : Nat)
  | select (op : BitVec 5)
  | reply (len : Nat)
deriving DecidableEq, Repr

/-- The row selects what stands at the port: `(H & mask) = match`. -/
def RowKey.selects : RowKey → Encoded → Bool
  | .header mask key len, .toDevice bs =>
      bs.length == len && (match headerNumber bs with
        | some h => (h &&& mask) == key
        | none => false)
  | .select op, .command r => r.op == op
  | .reply len, .fromDevice bs => bs.length == len
  | _, _ => false

/-- The row of each instruction, its mask and match as spec/opcode_table.json gives them (at the default parameter
values, R60). -/
def rowKey : Instr → RowKey
  | .frameIdentify _ _ => .header 0xFFFF0000FFFF 0x015000000223 6
  | .frameEnable _ _ => .header 0xFF80FF00FFFF 0x010001000210 6
  | .frameDisable _ _ => .header 0xFF80FF00FFFF 0x010002000210 6
  | .frameReqEnable _ _ _ => .header 0xFF800000FFFF 0x010000000211 6
  | .frameSetMode _ _ _ => .header 0xFF800000FFFF 0x010000000640 6
  | .frameReqMode _ _ _ => .header 0xFF800000FFFF 0x010000000641 6
  | .frameReqVolt _ _ _ => .header 0xFF800000FFFF 0x010000000644 6
  | .frameReqPos _ _ _ => .header 0xFF800000FFFF 0x010000000647 6
  | .frameZero _ _ _ => .header 0xFF800000FFFF 0x010000000658 6
  | .frameSetVolt _ _ _ _ => .header 0xFF80FFFFFFFF 0x018000040643 10
  | .frameSetPos _ _ _ _ => .header 0xFF80FFFFFFFF 0x018000040646 10
  | .reply6 _ _ _ _ _ _ => .reply 6
  | .reply10 _ _ _ _ _ _ _ _ _ _ => .reply 10
  | .identify => .select 0x00
  | .enable _ => .select 0x01
  | .disable _ => .select 0x02
  | .setMode _ _ => .select 0x03
  | .zero _ => .select 0x04
  | .pollZero _ => .select 0x05
  | .position _ _ => .select 0x06
  | .getPosition _ => .select 0x07
  | .setVolt _ _ => .select 0x08
  | .getVolt _ => .select 0x09
  | .rampVolt _ _ _ _ => .select 0x0A
  | .shutdown => .select 0x0B
  | .getMode _ => .select 0x0C
  | .getEnable _ => .select 0x0D
  | .reserved0E => .select 0x0E
  | .reserved0F => .select 0x0F
  | .encodeShort _ _ _ _ _ => .select 0x10
  | .encodeLong _ _ _ _ => .select 0x11
  | .decodeRaw _ => .select 0x12
  | .pos2Scaled _ _ => .select 0x13
  | .scaled2Pos _ _ => .select 0x14
  | .volt2Scaled _ _ => .select 0x15
  | .scaled2Volt _ _ => .select 0x16
  | .bayAddr _ => .select 0x17
  | .int2b1 _ => .select 0x18
  | .int2b2 _ => .select 0x19
  | .b2u16 _ _ => .select 0x1A
  | .b2i16 _ _ => .select 0x1B
  | .reserved1C => .select 0x1C
  | .reserved1D => .select 0x1D
  | .reserved1E => .select 0x1E
  | .reserved1F => .select 0x1F

/-! ### The table's own numbering of a row's bits -/

/-- Byte `i` of the number `w`, bit 0 the least significant bit of byte 0. -/
def byteOf (w i : Nat) : Byte := BitVec.ofNat 8 (w / 2 ^ (8 * i))

/-- The first `n` bytes of the number `w`. -/
def bytesOf (w : Nat) : Nat → List Byte
  | 0 => []
  | n + 1 => byteOf w 0 :: bytesOf (w / 256) n

/-- What stands at the port when a row's bits are `w`, `nbits` of them (log entry 4): up to 8 bits are a select code
with its operand ports at rest; up to 48 bits a header, a frame to the device where a row of R67 matches it (with four
zero payload bytes after a long one), else a REPLY6; more bits are ten bytes, a long frame where one matches, else a
REPLY10. -/
def encodedOf (nbits w : Nat) : Option Encoded :=
  if nbits ≤ 8 then
    if w < 32 then some (.command (.bare (BitVec.ofNat 5 w))) else none
  else if nbits ≤ 48 then
    match decode Config.default (.toDevice (bytesOf w 6)) with
    | .ok _ => some (.toDevice (bytesOf w 6))
    | .error _ => match decode Config.default (.toDevice (bytesOf w 10)) with
      | .ok _ => some (.toDevice (bytesOf w 10))
      | .error _ => some (.fromDevice (bytesOf w 6))
  else match decode Config.default (.toDevice (bytesOf w 10)) with
    | .ok _ => some (.toDevice (bytesOf w 10))
    | .error _ => some (.fromDevice (bytesOf w 10))

/-- The instruction the decoder reads from a row's bits. -/
def decodeTableWord (nbits w : Nat) : Option Instr :=
  match encodedOf nbits w with
  | some e => match decode Config.default e with
    | .ok i => some i
    | .error _ => none
  | none => none

end Sys2Proof
end

