-- ==== Sys2Proof/Machine/State.lean ====
section
/-! DEFINITION. The state of the block (spec 10_state R15, R27), the ports around it (70_reset_and_hazards R205), the
faults and refusals, and the state after reset (R29, R186). -/

namespace Sys2Proof.Machine

/-- `seq[c]`, encodings 0..3 in this order (R15, R16). -/
inductive Seq where
  | disabled
  | enabled
  | zeroRequested
  | closedLoopReady
deriving DecidableEq, Repr

/-- `mode[c]`, encodings 0, 1 (R15, R19). -/
inductive Mode where
  | openLoop
  | closedLoop
deriving DecidableEq, Repr

/-- One register per channel. -/
structure PerChan (α : Type) where
  ch1 : α
  ch2 : α
  ch3 : α
deriving DecidableEq, Repr

/-- The exchange in flight (R27): the request is written, the reply not yet fully read. It holds what the waiting
command still needs: its channel, and for a ramp its operands; for SHUTDOWN the channel it has reached. -/
inductive Exchange where
  | pollZero (c : Chan)
  | getMode (c : Chan)
  | getEnable (c : Chan)
  | getPosition (c : Chan)
  | getVolt (c : Chan)
  | ramp (c : Chan) (target : Int) (steps : Word16) (delayMs : Word32)
  | shutdown (c : Chan)
deriving DecidableEq, Repr

/-- The events of the block's history (R54). -/
inductive Event where
  | tx (frame : List Byte)
  | rx (n : Nat) (bs : List Byte)
  | wait (ms : Word32)
  | close
  | done (r : Result)
  | error (e : ErrorKind)
deriving DecidableEq, Repr

/-- The record on the response port (R76): error code, value (signed, `VAL_W` bits), and beside it the exact result (R144) or a function
unit's result ports (R78). -/
structure Response where
  err    : BitVec 3
  val    : Int
  result : Result
deriving DecidableEq, Repr

/-- What the transport does with one access (R46): it completes, or it fails after `moved` bytes, a number the block
does not know (93 U13). -/
inductive Verdict where
  | completes
  | fails (moved : Nat)
deriving DecidableEq, Repr

/-- What the parties outside do at the block's ports between two of its steps (R204, R205). -/
inductive PortEvent where
  /-- An instruction stands at a port (R76, R78; wire frames: log entries 2 and 3). -/
  | instr (w : Encoded)
  /-- Any number of bytes come from the device (R40, R198). -/
  | bytes (bs : List Byte)
  /-- `tp_fail`: the transport reports failure of the access in progress (R205); `moved` bytes of it are lost. -/
  | failAccess (moved : Nat)
  /-- The reset input, with the configuration inputs it samples (R185, R205, R206). -/
  | reset (cfg : Config)
deriving DecidableEq, Repr

/-- The machine stops. -/
inductive Fault where
  /-- Raised by `step` alone, in a block whose `RxRead` waits for bytes when nothing outside acts any more: "stuck",
  "no step until something outside lifts it" (R179, 93 U2). Safe: nothing happens that the spec gives. -/
  | stuckInRxRead
deriving DecidableEq, Repr

/-- The block gives no meaning: "writes nothing, reports nothing" (R180). -/
inductive Refusal where
  /-- Raised by `exec` for an instruction that has no meaning yet. Safe. -/
  | notModelled (mnemonic : String)
  /-- Raised at acceptance and by the wire-frame instructions while another command executes (R180, R192, R44). Safe. -/
  | busy
  /-- Raised at acceptance and by the wire-frame instructions when `session_open = 0` (R180, R44). Safe. -/
  | sessionClosed
  /-- Raised by the wire-frame instructions for a frame that is none of the eleven of R67 with the configuration's
  parameters: the block never sends it (R37, R73). Safe. -/
  | frameNotListed
  /-- Raised by the six reserved select codes (R78, R180). Safe. -/
  | reservedCode (op : BitVec 5)
  /-- Raised by DECODE of fewer than six bytes: outside its domain (R87, 93 U1). Safe. -/
  | outsideDomain
  /-- Raised by a reset whose configuration inputs are not legal and by a command when a maximum is 0: the
  configuration is refused (R22, 93 U7, U15). Safe. -/
  | illegalConfiguration
  /-- Raised by `step` on bytes that no row of the opcode table describes (R73). Safe. -/
  | undecodable (e : DecodeError)
deriving DecidableEq, Repr

/-- The whole state: the registers of R15, the hidden state of R27, the streams of R36, the response port and the
history, and the model's account of the parties outside (`inbox`, `verdicts`). -/
structure State where
  seq        : PerChan Seq
  mode       : PerChan Mode
  sessionOpen : Bool
  cfgMaxPos  : Nat
  cfgMaxVolt : Nat
  config     : Config
  exchange   : Option Exchange
  rxBuf      : List Byte
  txStream   : List Byte
  rxStream   : List Byte
  response   : Option Response
  history    : List Event
  inbox      : List PortEvent
  verdicts   : List Verdict
deriving DecidableEq, Repr

/-- The state after reset (R29, R186) with the default configuration (R10). DESIGN CHOICE (log entries 5 to 8): the
streams and the parties outside hold nothing. -/
def State.reset : State where
  seq        := ⟨.disabled, .disabled, .disabled⟩
  mode       := ⟨.openLoop, .openLoop, .openLoop⟩
  sessionOpen := true
  cfgMaxPos  := Config.default.maxPos
  cfgMaxVolt := Config.default.maxVolt
  config     := Config.default
  exchange   := none
  rxBuf      := []
  txStream   := []
  rxStream   := []
  response   := none
  history    := []
  inbox      := []
  verdicts   := []

end Sys2Proof.Machine
end

