-- ==== Sys2Proof/Machine/Flags.lean ====
section
/-! DEFINITION. The block has no status flags and no condition codes (spec 10_state R24). What is computed from the
state instead: the views of R20, the status port of R30, the error codes of R166, the value on the response port. -/

namespace Sys2Proof.Machine

/-- The register of channel `c`. -/
def PerChan.get {α : Type} (p : PerChan α) : Chan → α
  | .ch1 => p.ch1
  | .ch2 => p.ch2
  | .ch3 => p.ch3

/-- The registers with channel `c`'s replaced. -/
def PerChan.set {α : Type} (p : PerChan α) (c : Chan) (v : α) : PerChan α :=
  match c with
  | .ch1 => { p with ch1 := v }
  | .ch2 => { p with ch2 := v }
  | .ch3 => { p with ch3 := v }

/-- The numeric encoding of `seq[c]` (R15). -/
def Seq.code : Seq → BitVec 2
  | .disabled => 0
  | .enabled => 1
  | .zeroRequested => 2
  | .closedLoopReady => 3

/-- The numeric encoding of `mode[c]` (R15). -/
def Mode.code : Mode → BitVec 1
  | .openLoop => 0
  | .closedLoop => 1

/-- The view `enable_state(c)`, true for `Enabled` (R20). -/
def enableState (s : State) (c : Chan) : Bool := s.seq.get c != .disabled

/-- The view `zero_complete(c)` (R20). -/
def zeroComplete (s : State) (c : Chan) : Bool := s.seq.get c == .closedLoopReady

/-- What the status port shows (R30). -/
structure StatusPort where
  seq         : PerChan (BitVec 2)
  mode        : PerChan (BitVec 1)
  sessionOpen : Bool
  cfgMaxPos   : Nat
  cfgMaxVolt  : Nat
deriving DecidableEq, Repr

/-- The status port: a read-only view, no side effect (R30). DESIGN CHOICE (log entry 28): shown in the states of the
model, between steps and at waiting reads, not at the pseudocode points a command passes inside one step (R8). -/
def statusPort (s : State) : StatusPort where
  seq := ⟨s.seq.ch1.code, s.seq.ch2.code, s.seq.ch3.code⟩
  mode := ⟨s.mode.ch1.code, s.mode.ch2.code, s.mode.ch3.code⟩
  sessionOpen := s.sessionOpen
  cfgMaxPos := s.cfgMaxPos
  cfgMaxVolt := s.cfgMaxVolt

/-- `cmd_ready`: low while a command runs (R205) and while no command is accepted (R180). -/
def cmdReady (s : State) : Bool := s.exchange.isNone && s.sessionOpen

/-- `rsp_err` (R166). -/
def errorCode : ErrorKind → BitVec 3
  | .invalidChannel => 1
  | .outOfRange => 2
  | .preconditionNotMet => 3
  | .transportFailure => 4

/-- An integer on the response port, signed with `VAL_W` bits (R76); one that does not fit leaves the port value free
(log entry 9). -/
def portInt (cfg : Config) (n : Nat) (r : Result) (v : Int) : Int :=
  if fitsSigned cfg.valW v then v else portSigned cfg.valW (Config.freeRspVal n r)

/-- `rsp_val` of a result: 0 for no value (R76), 1 or 0 for a boolean (R126), a byte zero-extended (R141, R142), an
integer as it is (R143), a rational voltage through `QV` (R111); a byte string or a header has no integer value stated
(log entry 9). -/
def rspVal (cfg : Config) (n : Nat) (r : Result) : Int :=
  match r with
  | .nothing => 0
  | .bool b => portInt cfg n r (if b then 1 else 0)
  | .byte b => portInt cfg n r b.toNat
  | .int v => portInt cfg n r v
  | .ratio q => portInt cfg n r (quantise cfg.qv q)
  | .bytes _ => portSigned cfg.valW (Config.freeRspVal n r)
  | .header _ => portSigned cfg.valW (Config.freeRspVal n r)

/-- The record of the response port (R76, R161): code 0 and the result, or the error's code and value 0. -/
def responseOf (cfg : Config) (n : Nat) : Except ErrorKind Result → Response
  | .ok r => ⟨0, rspVal cfg n r, r⟩
  | .error e => ⟨errorCode e, 0, .nothing⟩

/-- The event that closes a command (R54). -/
def reportEvent : Except ErrorKind Result → Event
  | .ok r => .done r
  | .error e => .error e

/-- How many bytes the waiting command reads: 6 for a status, 10 for a value (R72). -/
def replyLen : Exchange → Nat
  | .pollZero _ => STATUS_REPLY_LEN
  | .getMode _ => STATUS_REPLY_LEN
  | .getEnable _ => STATUS_REPLY_LEN
  | .getPosition _ => VALUE_REPLY_LEN
  | .getVolt _ => VALUE_REPLY_LEN
  | .ramp _ _ _ _ => VALUE_REPLY_LEN
  | .shutdown _ => VALUE_REPLY_LEN

/-- The channel of the exchange in flight. -/
def exchangeChan : Exchange → Chan
  | .pollZero c => c
  | .getMode c => c
  | .getEnable c => c
  | .getPosition c => c
  | .getVolt c => c
  | .ramp c _ _ _ => c
  | .shutdown c => c

/-- The frames of a history, in order (R54: one `Tx` per `TxWrite`). -/
def txFrames : List Event → List (List Byte)
  | [] => []
  | .tx f :: es => f :: txFrames es
  | .rx _ _ :: es => txFrames es
  | .wait _ :: es => txFrames es
  | .close :: es => txFrames es
  | .done _ :: es => txFrames es
  | .error _ :: es => txFrames es

end Sys2Proof.Machine
end

