-- ==== Sys2Proof/Machine/Ops.lean ====
section
/-! DEFINITION. The named operations every instruction is made of: register writes, the two transport primitives (spec
20_memory R44 to R46), acceptance (R120 stage 1, R180), the report (R120 stage 7), raising an error (R161). -/

namespace Sys2Proof.Machine

/-- What a step answers. -/
abbrev Out := Host.Outcome State Fault Refusal

/-! ### Updates of single fields -/

/-- `seq[c] <- v` (R12). -/
def State.setSeq (s : State) (c : Chan) (v : Seq) : State := { s with seq := s.seq.set c v }
/-- `mode[c] <- v` (R12). -/
def State.setMode (s : State) (c : Chan) (v : Mode) : State := { s with mode := s.mode.set c v }
/-- `session_open <- v`. -/
def State.setSession (s : State) (v : Bool) : State := { s with sessionOpen := v }
/-- One more event of the history (R54). -/
def State.log (s : State) (e : Event) : State := { s with history := s.history ++ [e] }
/-- Bytes appended to the transmit stream in offset order (R44). -/
def State.emit (s : State) (bs : List Byte) : State := { s with txStream := s.txStream ++ bs }
/-- The transport has disposed of one access. -/
def State.popVerdict (s : State) : State := { s with verdicts := s.verdicts.tail }
/-- The receive stream, the receive buffer and the exchange after an `RxRead` or a part of one. -/
def State.setRx (s : State) (x : Option Exchange) (buf stream : List Byte) : State :=
  { s with exchange := x, rxBuf := buf, rxStream := stream }
/-- The response port's record (R76). -/
def State.setResponse (s : State) (r : Response) : State := { s with response := some r }
/-- The next event of the parties outside is taken. -/
def State.setInbox (s : State) (l : List PortEvent) : State := { s with inbox := l }

/-! ### Running a command's pseudocode -/

/-- How a stretch of pseudocode ends: it goes on with a value, it raised an error (R161), or it waits in an `RxRead`
whose bytes have not come (R179). -/
inductive Run (α : Type) where
  | ret (s : State) (a : α)
  | raised (s : State) (e : ErrorKind)
  | blocked (s : State)
deriving Repr

/-- Go on after a stretch of pseudocode; after a `raise` nothing later runs, everything before it stands (R161). -/
def Run.andThen {α β : Type} (r : Run α) (f : State → α → Run β) : Run β :=
  match r with
  | .ret s a => f s a
  | .raised s e => .raised s e
  | .blocked s => .blocked s

/-- A computed value or the error it raises. -/
def liftExcept {α : Type} (s : State) : Except ErrorKind α → Run α
  | .ok a => .ret s a
  | .error e => .raised s e

/-! ### The transport primitives -/

/-- `TxWrite(bytes)` (R44, R46). A completed write appends the whole frame and is one `Tx` event (R54); of a failed one
the first `moved` bytes reach the wire and there is no event (log entry 14). -/
def txWrite (frame : List Byte) (s : State) : Run Unit :=
  match s.verdicts.headD .completes with
  | .completes => .ret ((s.popVerdict.emit frame).log (.tx frame)) ()
  | .fails moved => .raised (s.popVerdict.emit (frame.take moved)) .transportFailure

/-- `RxRead(n)` on behalf of `x`, `n = replyLen x` (R45, R46). The bytes are taken in arrival order, first those
already in the receive buffer. With fewer than `n` there the block keeps them and waits; the access is then still the
transport's to complete or to fail. -/
def rxRead (x : Exchange) (s : State) : Run (List Byte) :=
  match s.verdicts.headD .completes with
  | .fails moved => .raised (s.popVerdict.setRx none [] (s.rxStream.drop moved)) .transportFailure
  | .completes =>
    let avail := s.rxBuf ++ s.rxStream
    if replyLen x ≤ avail.length then
      .ret ((s.popVerdict.setRx none [] (avail.drop (replyLen x))).log (.rx (replyLen x) (avail.take (replyLen x))))
        (avail.take (replyLen x))
    else .blocked (s.setRx (some x) avail [])

/-- `Close()`: the release of the transport (R152, R54); it may fail (R160). -/
def closeTransport (s : State) : Run Unit :=
  match s.verdicts.headD .completes with
  | .completes => .ret (s.popVerdict.log .close) ()
  | .fails _ => .raised s.popVerdict .transportFailure

/-- `Wait(ms)`: "no effect but the event in the history" (R199). -/
def waitMs (ms : Word32) (s : State) : State := s.log (.wait ms)

/-! ### Acceptance, report, error -/

/-- The report of a command or a function unit, error or success: the one place where an error is taken (R161, R169: it
saves nothing, switches nothing and leaves no bit behind). -/
def report (r : Except ErrorKind Result) (s : State) : State :=
  (s.setResponse (responseOf s.config s.history.length r)).log (reportEvent r)

/-- The end of a command's pseudocode as an outcome of the step: a report, or no report while it waits. -/
def conclude : Run Result → Out
  | .ret s r => .next (report (.ok r) s)
  | .raised s e => .next (report (.error e) s)
  | .blocked s => .next s

/-- Acceptance of anything on the command port (R120 stage 1, R180). -/
def accept (s : State) (go : State → Out) : Out :=
  if s.exchange.isSome then .refused .busy
  else if s.sessionOpen then go s
  else .refused .sessionClosed

/-- A command: accepted, then its pseudocode. A maximum of 0 is no configuration (R22, U7). -/
def runCommand (s : State) (body : State → Run Result) : Out :=
  accept s fun s =>
    if s.cfgMaxPos = 0 ∨ s.cfgMaxVolt = 0 then .refused .illegalConfiguration else conclude (body s)

/-- A function unit: accepted, then its result reported; no register and no transport byte is touched (R78). -/
def answerUnit (s : State) (r : Except ErrorKind Result) : Out :=
  accept s fun s => .next (report r s)

/-- `bay = BAYADDR(c)`, first of all (R116): the channel, or `InvalidChannel`. -/
def withChannel (ch : Byte) (s : State) (body : Chan → State → Run Result) : Run Result :=
  match chanOf (ch.toNat : Int) with
  | some c => body c s
  | none => .raised s .invalidChannel

/-- A short frame of a channel, built whole and then written (R42, R67). -/
def sendShort (opcode : Word16) (c : Chan) (p2 : Int) (s : State) : Run Unit :=
  (liftExcept s (shortFrame s.config opcode c p2)).andThen fun s f => txWrite f s

/-- A long frame of a channel, built whole and then written (R42, R66, R67). -/
def sendLong (opcode : Word16) (c : Chan) (scaled : Int) (s : State) : Run Unit :=
  (liftExcept s (longFrame s.config opcode c scaled)).andThen fun s f => txWrite f s

/-- The common shape of a query of channel `c` (R140): the request, then the blocking read. -/
def query (opcode : Word16) (c : Chan) (x : Exchange) (s : State) : Run (List Byte) :=
  (sendShort opcode c s.config.queryP2 s).andThen fun s _ => rxRead x s

/-- The result of a value, for a command that returns none. -/
def noResult : State → Unit → Run Result := fun s _ => .ret s .nothing

end Sys2Proof.Machine
end

