-- ==== Sys2Proof/Machine/Commands.lean ====
section
/-! DEFINITION. The commands that drive the device (spec 43_channel_commands): their pseudocode and their meanings. -/

namespace Sys2Proof.Machine

/-- IDENTIFY (R121). -/
def identifyBody (s : State) : Run Result :=
  (txWrite (encodeShort opIdentify s.config.identP1 s.config.identP2 controllerAddr hostAddr) s).andThen noResult

/-- ENABLE (R122), also the first half of ZERO (R125). -/
def enableBody (c : Chan) (s : State) : Run Unit :=
  (sendShort opEnable c s.config.enCode s).andThen fun s _ => .ret (s.setSeq c .enabled) ()

/-- DISABLE (R123). -/
def disableBody (c : Chan) (s : State) : Run Unit :=
  (sendShort opEnable c s.config.disCode s).andThen fun s _ => .ret (s.setSeq c .disabled) ()

/-- The code SETMODE sends (R124, R70). -/
def modeCode (cfg : Config) (closed : Bool) : Int := if closed then cfg.modeCodeClosed else cfg.modeCodeOpen

/-- The value SETMODE writes (R124). -/
def modeOf (closed : Bool) : Mode := if closed then .closedLoop else .openLoop

/-- SETMODE (R124), also part of SHUTDOWN (R152). -/
def setModeBody (c : Chan) (closed : Bool) (s : State) : Run Unit :=
  (sendShort opSetMode c (modeCode s.config closed) s).andThen fun s _ => .ret (s.setMode c (modeOf closed)) ()

/-- ZERO (R125): the enable frame even where the channel is enabled, then the zero frame. -/
def zeroBody (c : Chan) (s : State) : Run Unit :=
  (enableBody c s).andThen fun s _ =>
    (sendShort opZero c s.config.queryP2 s).andThen fun s _ => .ret (s.setSeq c .zeroRequested) ()

/-- POLLZERO after its reply (R126): equality of the unsigned status byte with `0x02`. -/
def pollFinish (c : Chan) (raw : List Byte) (s : State) : Run Result :=
  if statusByte raw = statusClosedLoop then .ret (s.setSeq c .closedLoopReady) (.bool true)
  else .ret s (.bool false)

/-- POLLZERO (R126). -/
def pollZeroBody (c : Chan) (s : State) : Run Result :=
  (query opQueryMode c (.pollZero c) s).andThen fun s raw => pollFinish c raw s

/-- POSITION (R127): state, then range, then scaling, then the frame (R167). -/
def positionBody (pos : Int) (c : Chan) (s : State) : Run Result :=
  if s.seq.get c ≠ .closedLoopReady then .raised s .preconditionNotMet
  else if pos < 0 ∨ pos > (s.cfgMaxPos : Int) then .raised s .outOfRange
  else (liftExcept s (posToScaled s.config.tie pos s.cfgMaxPos)).andThen fun s scaled =>
    (sendLong opSetPosition c scaled s).andThen noResult

/-- SETVOLT (R128) of the rational `num/den` volts: an integer from the command port, an exact set-point from a ramp. -/
def setVoltBody (num : Int) (den : Nat) (c : Chan) (s : State) : Run Unit :=
  if num < 0 ∨ num > (s.cfgMaxVolt : Int) * den then .raised s .outOfRange
  else (liftExcept s (voltToScaled s.config.tie num den s.cfgMaxVolt)).andThen fun s scaled =>
    sendLong opSetVoltage c scaled s

/-! ### Meanings -/

/-- IDENTIFY (R121). -/
def execIdentify (s : State) : Out := runCommand s identifyBody

/-- ENABLE (R122): `seq[c] <- Enabled` from any value (D7). -/
def execEnable (ch : Byte) (s : State) : Out :=
  runCommand s fun s => withChannel ch s fun c s => (enableBody c s).andThen noResult

/-- DISABLE (R123). -/
def execDisable (ch : Byte) (s : State) : Out :=
  runCommand s fun s => withChannel ch s fun c s => (disableBody c s).andThen noResult

/-- SETMODE (R124): `mode[c]` only. -/
def execSetMode (ch : Byte) (closed : Bool) (s : State) : Out :=
  runCommand s fun s => withChannel ch s fun c s => (setModeBody c closed s).andThen noResult

/-- ZERO (R125). -/
def execZero (ch : Byte) (s : State) : Out :=
  runCommand s fun s => withChannel ch s fun c s => (zeroBody c s).andThen noResult

/-- POLLZERO (R126). -/
def execPollZero (ch : Byte) (s : State) : Out :=
  runCommand s fun s => withChannel ch s pollZeroBody

/-- POSITION (R127). -/
def execPosition (ch : Byte) (pos : Int) (s : State) : Out :=
  runCommand s fun s => withChannel ch s (positionBody pos)

/-- SETVOLT (R128): legal in every `seq` and `mode`. -/
def execSetVolt (ch : Byte) (volts : Int) (s : State) : Out :=
  runCommand s fun s => withChannel ch s fun c s => (setVoltBody volts 1 c s).andThen noResult

end Sys2Proof.Machine
end

