-- ==== Sys2Proof/Machine/Queries.lean ====
section
/-! DEFINITION. The read-only queries (spec 44_channel_queries): no register is written. -/

namespace Sys2Proof.Machine

/-- GETMODE and GETENABLE after their reply: the status byte, uninterpreted (R141, R142). -/
def statusFinish (raw : List Byte) (s : State) : Run Result := .ret s (.byte (statusByte raw))

/-- GETPOSITION after its reply: unsigned, floored, not clamped (R143, R104, R107). -/
def positionFinish (raw : List Byte) (s : State) : Run Result :=
  .ret s (.int (scaledToPos (b2u16 (valueLo raw) (valueHi raw)) s.cfgMaxPos))

/-- GETVOLT after its reply: signed, exact (R144, R106, R107). -/
def voltFinish (raw : List Byte) (s : State) : Run Result :=
  .ret s (.ratio (scaledToVolt (b2i16 (valueLo raw) (valueHi raw)) s.cfgMaxVolt))

/-- GETMODE (R141). -/
def getModeBody (c : Chan) (s : State) : Run Result :=
  (query opQueryMode c (.getMode c) s).andThen fun s raw => statusFinish raw s

/-- GETENABLE (R142). -/
def getEnableBody (c : Chan) (s : State) : Run Result :=
  (query opQueryEnable c (.getEnable c) s).andThen fun s raw => statusFinish raw s

/-- GETPOSITION (R143). -/
def getPositionBody (c : Chan) (s : State) : Run Result :=
  (query opQueryPosition c (.getPosition c) s).andThen fun s raw => positionFinish raw s

/-- GETVOLT (R144). -/
def getVoltBody (c : Chan) (s : State) : Run Result :=
  (query opQueryVoltage c (.getVolt c) s).andThen fun s raw => voltFinish raw s

/-! ### Meanings -/

/-- GETMODE (R141): `seq[c]` unchanged even when the status is `0x02`. -/
def execGetMode (ch : Byte) (s : State) : Out := runCommand s fun s => withChannel ch s getModeBody

/-- GETENABLE (R142): the result is not copied into `seq[c]`. -/
def execGetEnable (ch : Byte) (s : State) : Out := runCommand s fun s => withChannel ch s getEnableBody

/-- GETPOSITION (R143). -/
def execGetPosition (ch : Byte) (s : State) : Out := runCommand s fun s => withChannel ch s getPositionBody

/-- GETVOLT (R144). -/
def execGetVolt (ch : Byte) (s : State) : Out := runCommand s fun s => withChannel ch s getVoltBody

end Sys2Proof.Machine
end

