-- ==== Sys2Proof/Machine/Composite.lean ====
section
/-! DEFINITION. The composite commands (spec 45_composite_commands), and the rest of any command that waited in its
`RxRead` once the bytes are there. -/

namespace Sys2Proof.Machine

/-- RAMPVOLT's checks before any byte: `steps = 0`, then `target` (R150, R167). -/
def rampCheck (target : Int) (steps : Nat) (s : State) : Except ErrorKind Unit :=
  if steps = 0 then .error .outOfRange
  else if target < 0 ∨ target > (s.cfgMaxVolt : Int) then .error .outOfRange
  else .ok ()

/-- The set-points `steps - k, ..., steps` of a ramp from the raw reading (R150): one SETVOLT each, a `Wait` between
two. -/
def rampSetPoints (raw target : Int) (steps : Nat) (delayMs : Word32) (c : Chan) : Nat → State → Run Unit
  | 0, s => setVoltBody (setPointNum raw target s.cfgMaxVolt steps steps) (32767 * steps) c s
  | k + 1, s =>
    (setVoltBody (setPointNum raw target s.cfgMaxVolt steps (steps - (k + 1))) (32767 * steps) c s).andThen
      fun s _ => rampSetPoints raw target steps delayMs c k (waitMs delayMs s)

/-- A ramp after its reading: `steps + 1` set-points, both ends included (R150). -/
def rampFinish (target : Int) (steps : Nat) (delayMs : Word32) (c : Chan) (reply : List Byte) (s : State) : Run Unit :=
  rampSetPoints (b2i16 (valueLo reply) (valueHi reply)) target steps delayMs c steps s

/-- RAMPVOLT (R150), also part of SHUTDOWN; `x` says on whose behalf the reading is awaited. -/
def rampBody (target : Int) (steps : Nat) (delayMs : Word32) (x : Exchange) (c : Chan) (s : State) : Run Unit :=
  (liftExcept s (rampCheck target steps s)).andThen fun s _ =>
    (query opQueryVoltage c x s).andThen fun s reply => rampFinish target steps delayMs c reply s

/-- SHUTDOWN over the channels that remain (R152): per channel open loop, then a ramp to 0; after the last one the
transport is released and the session closed. -/
def shutdownFrom : List Chan → State → Run Unit
  | [], s => (closeTransport s).andThen fun s _ => .ret (s.setSession false) ()
  | c :: cs, s =>
    (setModeBody c false s).andThen fun s _ =>
      (rampBody 0 s.config.shutSteps.toNat s.config.shutDelayMs (.shutdown c) c s).andThen fun s _ => shutdownFrom cs s

/-- The rest of the command that waits, once its reply is read (R140, R150, R152). -/
def afterReply (x : Exchange) (reply : List Byte) (s : State) : Run Result :=
  match x with
  | .pollZero c => pollFinish c reply s
  | .getMode _ => statusFinish reply s
  | .getEnable _ => statusFinish reply s
  | .getPosition _ => positionFinish reply s
  | .getVolt _ => voltFinish reply s
  | .ramp c target steps delayMs => (rampFinish target steps.toNat delayMs c reply s).andThen noResult
  | .shutdown c =>
    ((rampFinish 0 s.config.shutSteps.toNat s.config.shutDelayMs c reply s).andThen fun s _ =>
      shutdownFrom (chansAfter c) s).andThen noResult

/-- Bytes come from the device. With no read outstanding they wait in the receive stream, unnoticed (R168, R198); an
outstanding `RxRead` takes them by count alone and its command goes on (R45, R179). -/
def arrive (bs : List Byte) (s : State) : Out :=
  match s.exchange with
  | none => .next (s.setRx none s.rxBuf (s.rxStream ++ bs))
  | some x => conclude ((rxRead x (s.setRx (some x) s.rxBuf (s.rxStream ++ bs))).andThen fun s reply => afterReply x reply s)

/-- `tp_fail`: the access in progress fails, so the waiting command raises `TransportFailure` (R165, R179, R205). With
no access in progress there is nothing to fail. -/
def failAccess (moved : Nat) (s : State) : Out :=
  match s.exchange with
  | none => .next s
  | some _ => conclude (.raised (s.popVerdict.setRx none [] (s.rxStream.drop moved)) .transportFailure)

/-- The verdicts of the accesses that have not begun: a read that waits has begun, and the first verdict is its own
(log entry 6). -/
def verdictsToCome (s : State) : List Verdict :=
  if s.exchange.isSome then s.verdicts.tail else s.verdicts

/-- The reset input (R185, R186): the registers, the hidden state and the block's own streams as after reset, with the
configuration it samples. The transport and the parties outside are not reset (R187, R198): a read that waited is gone
with its verdict, and of every later access the transport decides anew (R204). -/
def resetBlock (cfg : Config) (s : State) : State :=
  { State.reset with
    cfgMaxPos := cfg.maxPos, cfgMaxVolt := cfg.maxVolt, config := cfg,
    rxStream := s.rxStream, inbox := s.inbox, verdicts := verdictsToCome s }

/-- A reset with the configuration inputs given; an illegal configuration is refused (R22, U7, U15). -/
def takeReset (cfg : Config) (s : State) : Out :=
  if configLegal cfg then .next (resetBlock cfg s) else .refused .illegalConfiguration

/-! ### Meanings -/

/-- RAMPVOLT (R150). -/
def execRampVolt (ch : Byte) (target : Int) (steps : Word16) (delayMs : Word32) (s : State) : Out :=
  runCommand s fun s => withChannel ch s fun c s =>
    (rampBody target steps.toNat delayMs (.ramp c target steps delayMs) c s).andThen noResult

/-- SHUTDOWN (R152). -/
def execShutdown (s : State) : Out :=
  runCommand s fun s => (shutdownFrom [.ch1, .ch2, .ch3] s).andThen noResult

end Sys2Proof.Machine
end

