-- ==== Sys2Proof/Machine/Frames.lean ====
section
/-! DEFINITION. The wire frames of the opcode table (spec 30_encoding R67) as instructions: a frame to the device is
the primitive `TxWrite` of exactly that frame (20_memory R44), a reply is its arrival on the receive stream (R45, R168).
DESIGN CHOICE (log entries 2 and 3). -/

namespace Sys2Proof.Machine

/-- The bytes of an instruction that stands on a stream. -/
def wireBytes : Encoded → List Byte
  | .toDevice bs => bs
  | .fromDevice bs => bs
  | .command _ => []

/-- The end of a transport action that no command asked for: nothing to report when it completes (R44 "returns
nothing"), the failure reported when it fails (R46, R161). -/
def concludeWrite : Run Unit → Out
  | .ret s _ => .next s
  | .raised s e => .next (report (.error e) s)
  | .blocked s => .next s

/-- `TxWrite` of a frame, under its precondition (R44): the session open and no exchange in flight; and only of one of
the eleven frames of R67, since the block sends no other (R37, R73). -/
def writeFrame (i : Instr) (s : State) : Out :=
  accept s fun s =>
    if isListedFrame s.config (wireBytes (encode s.config i)) then
      concludeWrite (txWrite (wireBytes (encode s.config i)) s)
    else .refused .frameNotListed

/-- FRAME_IDENTIFY (R121, R67). -/
def execFrameIdentify (p1 p2 : Byte) (s : State) : Out := writeFrame (.frameIdentify p1 p2) s

/-- FRAME_ENABLE (R122, R67). -/
def execFrameEnable (ci : Byte) (dest : BitVec 7) (s : State) : Out := writeFrame (.frameEnable ci dest) s

/-- FRAME_DISABLE (R123, R67). -/
def execFrameDisable (ci : Byte) (dest : BitVec 7) (s : State) : Out := writeFrame (.frameDisable ci dest) s

/-- FRAME_REQ_ENABLE (R142, R67). -/
def execFrameReqEnable (ci p2 : Byte) (dest : BitVec 7) (s : State) : Out := writeFrame (.frameReqEnable ci p2 dest) s

/-- FRAME_SET_MODE (R124, R67). -/
def execFrameSetMode (ci p2 : Byte) (dest : BitVec 7) (s : State) : Out := writeFrame (.frameSetMode ci p2 dest) s

/-- FRAME_REQ_MODE (R141, R67). -/
def execFrameReqMode (ci p2 : Byte) (dest : BitVec 7) (s : State) : Out := writeFrame (.frameReqMode ci p2 dest) s

/-- FRAME_REQ_VOLT (R144, R67). -/
def execFrameReqVolt (ci p2 : Byte) (dest : BitVec 7) (s : State) : Out := writeFrame (.frameReqVolt ci p2 dest) s

/-- FRAME_REQ_POS (R143, R67). -/
def execFrameReqPos (ci p2 : Byte) (dest : BitVec 7) (s : State) : Out := writeFrame (.frameReqPos ci p2 dest) s

/-- FRAME_ZERO (R125, R67). -/
def execFrameZero (ci p2 : Byte) (dest : BitVec 7) (s : State) : Out := writeFrame (.frameZero ci p2 dest) s

/-- FRAME_SET_VOLT (R128, R66, R67). -/
def execFrameSetVolt (dest : BitVec 7) (ci h : Byte) (value : Word16) (s : State) : Out :=
  writeFrame (.frameSetVolt dest ci h value) s

/-- FRAME_SET_POS (R127, R66, R67). -/
def execFrameSetPos (dest : BitVec 7) (ci h : Byte) (value : Word16) (s : State) : Out :=
  writeFrame (.frameSetPos dest ci h value) s

/-- REPLY6 (R58): six bytes from the device. -/
def execReply6 (b0 b1 b2 b3 b4 b5 : Byte) (s : State) : Out := arrive [b0, b1, b2, b3, b4, b5] s

/-- REPLY10 (R59): ten bytes from the device. -/
def execReply10 (b0 b1 b2 b3 b4 b5 b6 b7 b8 b9 : Byte) (s : State) : Out :=
  arrive [b0, b1, b2, b3, b4, b5, b6, b7, b8, b9] s

end Sys2Proof.Machine
end

