-- ==== Sys2Proof/Machine/Units.lean ====
section
/-! DEFINITION. The function units on the command port (spec 30_encoding R78): pure functions whose result is reported,
and the reserved select codes. -/

namespace Sys2Proof.Machine

/-- ENCODE_SHORT (R85). -/
def execEncodeShort (opcode : Word16) (p1 p2 dest src : Byte) (s : State) : Out :=
  answerUnit s (.ok (.bytes (encodeShort opcode p1 p2 dest src)))

/-- ENCODE_LONG (R86). -/
def execEncodeLong (opcode : Word16) (dest src : Byte) (payload : List Byte) (s : State) : Out :=
  answerUnit s ((encodeLong opcode dest src payload).map .bytes)

/-- DECODE (R87); fewer than six bytes are outside its domain (U1). -/
def execDecodeRaw (raw : List Byte) (s : State) : Out :=
  match decodeHeader raw with
  | some h => answerUnit s (.ok (.header h))
  | none => .refused .outsideDomain

/-- POS2SCALED (R103). -/
def execPos2Scaled (pos : Int) (max : Maximum) (s : State) : Out :=
  answerUnit s ((posToScaled s.config.tie pos max.val).map .int)

/-- SCALED2POS (R104). -/
def execScaled2Pos (raw : Word16) (max : Maximum) (s : State) : Out :=
  answerUnit s (.ok (.int (scaledToPos (raw.toNat : Int) max.val)))

/-- VOLT2SCALED (R105). -/
def execVolt2Scaled (volts : Ratio) (max : Maximum) (s : State) : Out :=
  answerUnit s ((voltToScaled s.config.tie volts.num volts.den max.val).map .int)

/-- SCALED2VOLT (R106). -/
def execScaled2Volt (raw : Word16) (max : Maximum) (s : State) : Out :=
  answerUnit s (.ok (.ratio (scaledToVolt raw.toInt max.val)))

/-- BAYADDR (R115). -/
def execBayAddr (ch : Byte) (s : State) : Out :=
  answerUnit s ((bayAddress (ch.toNat : Int)).map .byte)

/-- INT2B1 (R88). -/
def execInt2b1 (v : Int) (s : State) : Out :=
  answerUnit s ((int2b1 v).map fun b => .bytes [b])

/-- INT2B2 (R89). -/
def execInt2b2 (v : Int) (s : State) : Out :=
  answerUnit s ((int2b2 v).map .bytes)

/-- B2U16 (R90). -/
def execB2u16 (b0 b1 : Byte) (s : State) : Out :=
  answerUnit s (.ok (.int (b2u16 b0 b1)))

/-- B2I16 (R91). -/
def execB2i16 (b0 b1 : Byte) (s : State) : Out :=
  answerUnit s (.ok (.int (b2i16 b0 b1)))

/-! ### Reserved select codes (R78, R180): refused -/

/-- A reserved code "never starts, writes nothing, reports nothing" (R180). -/
def refuseReserved (op : BitVec 5) (_ : State) : Out := .refused (.reservedCode op)

/-- RESERVED_0E (R78). -/
def execReserved0E (s : State) : Out := refuseReserved 0x0E s
/-- RESERVED_0F (R78). -/
def execReserved0F (s : State) : Out := refuseReserved 0x0F s
/-- RESERVED_1C (R78). -/
def execReserved1C (s : State) : Out := refuseReserved 0x1C s
/-- RESERVED_1D (R78). -/
def execReserved1D (s : State) : Out := refuseReserved 0x1D s
/-- RESERVED_1E (R78). -/
def execReserved1E (s : State) : Out := refuseReserved 0x1E s
/-- RESERVED_1F (R78). -/
def execReserved1F (s : State) : Out := refuseReserved 0x1F s

end Sys2Proof.Machine
end

