-- ==== Sys2Proof/Machine/Dispatch.lean ====
section
/-! DEFINITION. One arm per instruction, each a direct call of its meaning. -/

namespace Sys2Proof.Machine

def exec (i : Instr) (s : State) : Host.Outcome State Fault Refusal :=
  match i with
  | .frameIdentify p1 p2 => Sys2Proof.Machine.execFrameIdentify p1 p2 s
  | .frameEnable ci dest => Sys2Proof.Machine.execFrameEnable ci dest s
  | .frameDisable ci dest => Sys2Proof.Machine.execFrameDisable ci dest s
  | .frameReqEnable ci p2 dest => Sys2Proof.Machine.execFrameReqEnable ci p2 dest s
  | .frameSetMode ci p2 dest => Sys2Proof.Machine.execFrameSetMode ci p2 dest s
  | .frameReqMode ci p2 dest => Sys2Proof.Machine.execFrameReqMode ci p2 dest s
  | .frameReqVolt ci p2 dest => Sys2Proof.Machine.execFrameReqVolt ci p2 dest s
  | .frameReqPos ci p2 dest => Sys2Proof.Machine.execFrameReqPos ci p2 dest s
  | .frameZero ci p2 dest => Sys2Proof.Machine.execFrameZero ci p2 dest s
  | .frameSetVolt dest ci h value => Sys2Proof.Machine.execFrameSetVolt dest ci h value s
  | .frameSetPos dest ci h value => Sys2Proof.Machine.execFrameSetPos dest ci h value s
  | .reply6 b0 b1 b2 b3 b4 b5 => Sys2Proof.Machine.execReply6 b0 b1 b2 b3 b4 b5 s
  | .reply10 b0 b1 b2 b3 b4 b5 b6 b7 b8 b9 => Sys2Proof.Machine.execReply10 b0 b1 b2 b3 b4 b5 b6 b7 b8 b9 s
  | .identify => Sys2Proof.Machine.execIdentify s
  | .enable ch => Sys2Proof.Machine.execEnable ch s
  | .disable ch => Sys2Proof.Machine.execDisable ch s
  | .setMode ch closedLoop => Sys2Proof.Machine.execSetMode ch closedLoop s
  | .zero ch => Sys2Proof.Machine.execZero ch s
  | .pollZero ch => Sys2Proof.Machine.execPollZero ch s
  | .position ch pos => Sys2Proof.Machine.execPosition ch pos s
  | .getPosition ch => Sys2Proof.Machine.execGetPosition ch s
  | .setVolt ch volts => Sys2Proof.Machine.execSetVolt ch volts s
  | .getVolt ch => Sys2Proof.Machine.execGetVolt ch s
  | .rampVolt ch target steps delayMs => Sys2Proof.Machine.execRampVolt ch target steps delayMs s
  | .shutdown => Sys2Proof.Machine.execShutdown s
  | .getMode ch => Sys2Proof.Machine.execGetMode ch s
  | .getEnable ch => Sys2Proof.Machine.execGetEnable ch s
  | .reserved0E => Sys2Proof.Machine.execReserved0E s
  | .reserved0F => Sys2Proof.Machine.execReserved0F s
  | .encodeShort opcode p1 p2 dest src => Sys2Proof.Machine.execEncodeShort opcode p1 p2 dest src s
  | .encodeLong opcode dest src payload => Sys2Proof.Machine.execEncodeLong opcode dest src payload s
  | .decodeRaw raw => Sys2Proof.Machine.execDecodeRaw raw s
  | .pos2Scaled pos mx => Sys2Proof.Machine.execPos2Scaled pos mx s
  | .scaled2Pos raw mx => Sys2Proof.Machine.execScaled2Pos raw mx s
  | .volt2Scaled volts mx => Sys2Proof.Machine.execVolt2Scaled volts mx s
  | .scaled2Volt raw mx => Sys2Proof.Machine.execScaled2Volt raw mx s
  | .bayAddr ch => Sys2Proof.Machine.execBayAddr ch s
  | .int2b1 v => Sys2Proof.Machine.execInt2b1 v s
  | .int2b2 v => Sys2Proof.Machine.execInt2b2 v s
  | .b2u16 b0 b1 => Sys2Proof.Machine.execB2u16 b0 b1 s
  | .b2i16 b0 b1 => Sys2Proof.Machine.execB2i16 b0 b1 s
  | .reserved1C => Sys2Proof.Machine.execReserved1C s
  | .reserved1D => Sys2Proof.Machine.execReserved1D s
  | .reserved1E => Sys2Proof.Machine.execReserved1E s
  | .reserved1F => Sys2Proof.Machine.execReserved1F s

end Sys2Proof.Machine
end

