-- ==== Sys2Proof/Machine/Step.lean ====
section
/-! DEFINITION. One step of the block (spec 00_scope R8): the next event at its ports, taken whole. The block fetches no
instruction from a store (R18, R51): what it does next stands at a port, put there by the caller or by the device. -/

namespace Sys2Proof.Machine

/-- One step. With nothing at its ports the block stays as it is; a block that waits in an `RxRead` is then stuck
(R179, U2). -/
def step (s : State) : Host.Outcome State Fault Refusal :=
  match s.inbox with
  | [] => if s.exchange.isSome then .fault .stuckInRxRead else .next s
  | .instr w :: rest =>
    match decode s.config w with
    | .ok i => exec i (s.setInbox rest)
    | .error e => .refused (.undecodable e)
  | .bytes bs :: rest => arrive bs (s.setInbox rest)
  | .failAccess moved :: rest => failAccess moved (s.setInbox rest)
  | .reset cfg :: rest => takeReset cfg (s.setInbox rest)

/-- `s` with the instruction whose row's bits are `w` standing at its port as the next event (log entry 5). -/
def State.withFetchWord (s : State) (nbits w : Nat) : State :=
  match encodedOf nbits w with
  | some e => s.setInbox (.instr e :: s.inbox)
  | none => s

end Sys2Proof.Machine
end

