-- ==== Sys2Proof/Safety.lean ====
section
/-! DEFINITION. What counts as a safe step and a good end (spec 70_reset_and_hazards R203), which frames the block may
send (30_encoding R73), the invariant of the state, and the words the claims are stated in. -/

namespace Sys2Proof.Safety

open Machine

/-- A step is safe when nothing was refused and the block is not stuck in an `RxRead` (R203), which `step` answers with
its fault (R179): a read that still waits for bytes to come is an ordinary step. An error report is an ordinary outcome. -/
def safeOutcome : Out → Bool
  | .next _ => true
  | .fault _ => false
  | .refused _ => false

/-- The last command has reported and no exchange is in flight (R203); a refusal leaves no state, so a state is that of
a run without one. DESIGN CHOICE (log entry 29): a run that has reported nothing since reset has not ended well; the
rule speaks of a last command only. -/
def endedWell (s : State) : Bool := s.exchange.isNone && s.response.isSome

/-- Port bytes 1, 2, 3 name the channels (R14, R76). -/
def chanByte : Chan → Byte
  | .ch1 => 1
  | .ch2 => 2
  | .ch3 => 3

/-- A command can start: nothing executes, the session is open (R120 stage 1) and both maxima are at least 1 (R22). -/
def Accepts (s : State) : Prop :=
  s.exchange = none ∧ s.sessionOpen = true ∧ s.cfgMaxPos ≠ 0 ∧ s.cfgMaxVolt ≠ 0

/-- The transport completes every access from here on (R46). -/
def NoFailure (s : State) : Prop := ∀ v ∈ s.verdicts, v = Verdict.completes

/-- The channel operand of a channel-taking command (R116). -/
def channelOperand : Instr → Option Byte
  | .enable ch => some ch
  | .disable ch => some ch
  | .setMode ch _ => some ch
  | .zero ch => some ch
  | .pollZero ch => some ch
  | .position ch _ => some ch
  | .getPosition ch => some ch
  | .setVolt ch _ => some ch
  | .getVolt ch => some ch
  | .rampVolt ch _ _ _ => some ch
  | .getMode ch => some ch
  | .getEnable ch => some ch
  | _ => none

/-- A frame to the device (R67). -/
def isDeviceFrame (i : Instr) : Bool :=
  match encode Config.default i with
  | .toDevice _ => true
  | _ => false

/-- A reply from the device (R58, R59). -/
def isReply (i : Instr) : Bool :=
  match encode Config.default i with
  | .fromDevice _ => true
  | _ => false

/-- A select code of the command port that is not reserved: a command or a function unit (R77, R78). -/
def onCommandPort : Instr → Bool
  | .reserved0E | .reserved0F | .reserved1C | .reserved1D | .reserved1E | .reserved1F => false
  | i => match encode Config.default i with
    | .command _ => true
    | _ => false

/-- A frame the block may send (R67, R73), byte by byte: identify to the controller; for a channel its bay, the channel
ident byte and a pair of opcode and second parameter of R67; in a long frame the length 4, the data-packet bit, the
channel ident word and a scaled value that is not negative. Parameters are those of the configuration. -/
def isBlockFrame (cfg : Config) : List Byte → Bool
  | [o0, o1, p1, p2, dest, src] => src == 0x01 &&
      (([o0, o1, p1, p2, dest] == [0x23, 0x02, cfg.identP1, cfg.identP2, 0x50]) ||
        ([.ch1, .ch2, .ch3].any fun c => dest == bay c && p1 == BitVec.ofInt 8 (chanIdent cfg c)) &&
          [[0x10, 0x02, BitVec.ofInt 8 cfg.enCode], [0x10, 0x02, BitVec.ofInt 8 cfg.disCode],
            [0x11, 0x02, BitVec.ofInt 8 cfg.queryP2], [0x40, 0x06, BitVec.ofInt 8 cfg.modeCodeOpen],
            [0x40, 0x06, BitVec.ofInt 8 cfg.modeCodeClosed], [0x41, 0x06, BitVec.ofInt 8 cfg.queryP2],
            [0x44, 0x06, BitVec.ofInt 8 cfg.queryP2], [0x47, 0x06, BitVec.ofInt 8 cfg.queryP2],
            [0x58, 0x06, BitVec.ofInt 8 cfg.queryP2]].contains [o0, o1, p2])
  | [o0, o1, l0, l1, dest, src, ci, h, _, v1] => src == 0x01 && l0 == 0x04 && l1 == 0x00 && h == 0x00 &&
      ([.ch1, .ch2, .ch3].any fun c => dest == bay c ||| 0x80 && ci == BitVec.ofInt 8 (chanIdent cfg c)) &&
        [[0x43, 0x06], [0x46, 0x06]].contains [o0, o1] && !v1.getLsbD 7
  | _ => false

/-- Every frame of the history is one the block may send, under the configuration that was sampled at reset. -/
def onlyBlockFrames (s : State) : Bool := (txFrames s.history).all (isBlockFrame s.config)

/-- How many reports a history holds (R54: one per command). -/
def reports : List Event → Nat
  | [] => 0
  | .done _ :: es => reports es + 1
  | .error _ :: es => reports es + 1
  | _ :: es => reports es

/-- The bytes read, in order (R43, R48). -/
def rxBytes : List Event → List Byte
  | [] => []
  | .rx _ bs :: es => bs ++ rxBytes es
  | _ :: es => rxBytes es

/-- How many accesses of the transport a stretch of history holds. -/
def accesses : List Event → Nat
  | [] => 0
  | .tx _ :: es => accesses es + 1
  | .rx _ _ :: es => accesses es + 1
  | .close :: es => accesses es + 1
  | _ :: es => accesses es

/-- `s` after the events `es` have happened and nothing else: their frames on the transmit stream, the bytes they read
gone from the receive stream, their accesses completed by the transport, themselves in the history. -/
def played (es : List Event) (s : State) : State :=
  { s with
    txStream := s.txStream ++ (txFrames es).flatten
    rxStream := s.rxStream.drop (rxBytes es).length
    history := s.history ++ es
    verdicts := s.verdicts.drop (accesses es) }

/-- A ramp that waits for its reading has passed its checks (R150). -/
def rampOperandsLegal (s : State) : Exchange → Prop
  | .ramp _ target steps _ => steps ≠ 0 ∧ 0 ≤ target ∧ target ≤ (s.cfgMaxVolt : Int)
  | _ => True

/-- The invariant: the configuration registers hold a legal configuration (R22), the receive buffer belongs to a read in
flight (R27), and a read in flight is one that could not complete (R45), in an open session (R21). -/
structure Consistent (s : State) : Prop where
  legal    : configLegal s.config = true
  maxPos   : s.cfgMaxPos = s.config.maxPos
  maxVolt  : s.cfgMaxVolt = s.config.maxVolt
  idleBuf  : s.exchange = none → s.rxBuf = []
  waiting  : ∀ x, s.exchange = some x →
    s.rxBuf.length < replyLen x ∧ s.rxStream = [] ∧ s.sessionOpen = true ∧
      s.verdicts.headD .completes = .completes ∧ rampOperandsLegal s x

end Sys2Proof.Safety
end

