-- ==== Sys2Proof/Certificates/Slice0/Obligations.lean ====
section
/-! DEFINITION. The statements about the block, each from the numbered rules of the spec. Helper definitions first. Where
a statement speaks of wire-frame or reply instructions, of the parties' events or of the transport's verdicts, the frame
of the statement is the model's choice (log entries 2, 3, 5, 6) and the content the rule's. -/

namespace Sys2Proof.Claims

open Machine Safety

/-- `z` is `round_he(q)` as R101 defines it: from `f = floor(q)` and `r = q - f`. -/
def IsRoundHe (q : ℚ) (z : Int) : Prop :=
  (q - ⌊q⌋ < 1 / 2 → z = ⌊q⌋) ∧ (1 / 2 < q - ⌊q⌋ → z = ⌊q⌋ + 1) ∧
    (q - ⌊q⌋ = 1 / 2 → (z = ⌊q⌋ ∨ z = ⌊q⌋ + 1) ∧ Even z)

/-- The short frame of channel `c` with opcode bytes `o0 o1` and second parameter `p2` (R67 to R70). -/
def shortOf (cfg : Config) (c : Chan) (o0 o1 : Byte) (p2 : Int) : List Byte :=
  [o0, o1, BitVec.ofInt 8 (chanIdent cfg c), BitVec.ofInt 8 p2, bay c, 0x01]

/-- The long frame of channel `c` with opcode bytes `o0 06` and scaled value `z` (R66, R67). -/
def longOf (cfg : Config) (c : Chan) (o0 : Byte) (z : Int) : List Byte :=
  [o0, 0x06, 0x04, 0x00, bay c ||| 0x80, 0x01, BitVec.ofInt 8 (chanIdent cfg c), 0x00,
    (BitVec.ofInt 16 z).setWidth 8, (BitVec.ofInt 16 z >>> 8).setWidth 8]

/-- A function unit's answer: from any state that accepts, the report and nothing else (R78). -/
def Answers (i : Instr) (r : Config → Except ErrorKind Result) : Prop :=
  ∀ s : State, s.exchange = none → s.sessionOpen = true → exec i s = .next (report (r s.config) s)

/-- A completed write of one frame and nothing else (R44). -/
def wrote (frame : List Byte) (s : State) : Out := .next (played [.tx frame] s)

/-- The channel ident byte of channel `c` (R69). -/
def identByte (cfg : Config) (c : Chan) : Byte := BitVec.ofInt 8 (chanIdent cfg c)

/-- Bits 6:0 of the destination byte of a frame for channel `c` (R56, R68). -/
def chanField (c : Chan) : BitVec 7 := (bay c).setWidth 7

/-- The signed 16-bit value at offsets 8, 9 of a reply (R59, R91). -/
def readingOf (reply : List Byte) : Int := (reply.getD 9 0 ++ reply.getD 8 0 : Word16).toInt

/-- The set-point frame `i` of a ramp of `n` steps in the closed form of R151. -/
def setPointFrame (s : State) (c : Chan) (r target : Int) (n i : Nat) : List Byte :=
  longOf s.config c 0x43
    (roundQ s.config.tie (r * s.cfgMaxVolt * ((n : Int) - i) + 32767 * target * i) (s.cfgMaxVolt * n))

/-- The events of the last `k + 1` set-points of a ramp of `n` steps: a wait between two, none after the last (R150). -/
def rampEvents (frame : Nat → List Byte) (delayMs : Word32) (n : Nat) : Nat → List Event
  | 0 => [.tx (frame n)]
  | k + 1 => .tx (frame (n - (k + 1))) :: .wait delayMs :: rampEvents frame delayMs n k

/-- A ramp's whole exchange: the query, its reply, the set-points. -/
def rampHistory (s : State) (c : Chan) (target : Int) (n : Nat) (delayMs : Word32) (reply : List Byte) : List Event :=
  [.tx (shortOf s.config c 0x44 0x06 s.config.queryP2), .rx 10 reply] ++
    rampEvents (setPointFrame s c (readingOf reply) target n) delayMs n n

/-- SHUTDOWN's part for one channel: open loop, then the ramp to 0 (R152). -/
def shutHistory (s : State) (c : Chan) (reply : List Byte) : List Event :=
  .tx (shortOf s.config c 0x40 0x06 s.config.modeCodeOpen) ::
    rampHistory s c 0 s.config.shutSteps.toNat s.config.shutDelayMs reply

/-- The request of a voltage query of channel `c` (R67). -/
def voltRequest (s : State) (c : Chan) : List Byte := shortOf s.config c 0x44 0x06 s.config.queryP2

/-- The frame that puts channel `c` into open loop (R67). -/
def openFrame (s : State) (c : Chan) : List Byte := shortOf s.config c 0x40 0x06 s.config.modeCodeOpen

/-- SHUTDOWN's part for a channel whose reading is negative: nothing after the reading (R152, R200). -/
def shutStop (s : State) (c : Chan) (reply : List Byte) : List Event :=
  [.tx (openFrame s c), .tx (voltRequest s c), .rx 10 reply]

/-- The first `j` set-points of a ramp, each with the wait after it. -/
def rampPrefix (frame : Nat → List Byte) (delayMs : Word32) (j : Nat) : List Event :=
  (List.range j).flatMap fun i => [.tx (frame i), .wait delayMs]

/-- The first frame a command writes where its channel, state and range checks pass (R67, R120). -/
def firstFrame (s : State) : Instr → Option (List Byte)
  | .identify => some [0x23, 0x02, s.config.identP1, s.config.identP2, 0x50, 0x01]
  | .enable ch => (chanOf ch.toNat).map fun c => shortOf s.config c 0x10 0x02 s.config.enCode
  | .disable ch => (chanOf ch.toNat).map fun c => shortOf s.config c 0x10 0x02 s.config.disCode
  | .setMode ch closed => (chanOf ch.toNat).map fun c =>
      shortOf s.config c 0x40 0x06 (if closed then s.config.modeCodeClosed else s.config.modeCodeOpen)
  | .zero ch => (chanOf ch.toNat).map fun c => shortOf s.config c 0x10 0x02 s.config.enCode
  | .pollZero ch => (chanOf ch.toNat).map fun c => shortOf s.config c 0x41 0x06 s.config.queryP2
  | .position ch pos => (chanOf ch.toNat).bind fun c =>
      if s.seq.get c = .closedLoopReady ∧ 0 ≤ pos ∧ pos ≤ s.cfgMaxPos then
        some (longOf s.config c 0x46 (roundQ s.config.tie (pos * 32767) s.cfgMaxPos))
      else none
  | .getPosition ch => (chanOf ch.toNat).map fun c => shortOf s.config c 0x47 0x06 s.config.queryP2
  | .setVolt ch volts => (chanOf ch.toNat).bind fun c =>
      if 0 ≤ volts ∧ volts ≤ s.cfgMaxVolt then
        some (longOf s.config c 0x43 (roundQ s.config.tie (volts * 32767) s.cfgMaxVolt))
      else none
  | .getVolt ch => (chanOf ch.toNat).map fun c => voltRequest s c
  | .rampVolt ch target steps _ => (chanOf ch.toNat).bind fun c =>
      if steps ≠ 0 ∧ 0 ≤ target ∧ target ≤ s.cfgMaxVolt then some (voltRequest s c) else none
  | .shutdown => some (openFrame s .ch1)
  | .getMode ch => (chanOf ch.toNat).map fun c => shortOf s.config c 0x41 0x06 s.config.queryP2
  | .getEnable ch => (chanOf ch.toNat).map fun c => shortOf s.config c 0x11 0x02 s.config.queryP2
  | _ => none

/-- The command reads a reply right after its first frame (R72). -/
def readsReply : Instr → Bool
  | .pollZero _ | .getMode _ | .getEnable _ | .getPosition _ | .getVolt _ | .rampVolt _ _ _ _ => true
  | _ => false

/-- The instruction, in this state, can write `seq` (R31). -/
def writesSeq (s : State) : Instr → Bool
  | .enable _ | .disable _ | .zero _ | .pollZero _ => true
  | .reply6 _ _ _ _ _ _ | .reply10 _ _ _ _ _ _ _ _ _ _ => match s.exchange with
    | some (.pollZero _) => true
    | _ => false
  | _ => false

/-- The instruction, in this state, continues or is a SHUTDOWN. -/
def isShutdown (s : State) : Instr → Bool
  | .shutdown => true
  | .reply6 _ _ _ _ _ _ | .reply10 _ _ _ _ _ _ _ _ _ _ => match s.exchange with
    | some (.shutdown _) => true
    | _ => false
  | _ => false

/-- The instruction, in this state, can write `mode` (R31). -/
def writesMode (s : State) : Instr → Bool
  | .setMode _ _ => true
  | i => isShutdown s i

end Sys2Proof.Claims

open Sys2Proof Sys2Proof.Machine Sys2Proof.Safety Sys2Proof.Claims

/-! ### Reset and steps -/

/-- R29: the registers and the hidden state after reset. The maxima are those of the configuration (R10). -/
def Obligations.ResetLeavesTheListedValues : Prop :=
  (∀ c, State.reset.seq.get c = .disabled) ∧ (∀ c, State.reset.mode.get c = .openLoop) ∧
    State.reset.sessionOpen = true ∧ State.reset.cfgMaxPos = State.reset.config.maxPos ∧
    State.reset.cfgMaxVolt = State.reset.config.maxVolt ∧ State.reset.exchange = none ∧ State.reset.rxBuf = [] ∧
    State.reset.txStream = []

/-- R185, R186, R187: a reset in any state, even while a read waits, gives the registers of R186 with the maxima of the
configuration sampled, and leaves the receive stream. That transmit stream, history and response start anew, and that
the read that waited takes its verdict with it while those of later accesses stay, is the model's choice (log entries 6
and 16). A configuration that is not legal is refused: of maxima of 0 R22 (93 U7) says so, of
parameter bytes 93 U15; that maxima too wide for their registers, an ident of channel 1 other than 1 and 0 shutdown
steps are refused as well is the model's (log entry 21). -/
def Obligations.ResetInputLoadsConfiguration : Prop :=
  ∀ (s : State) (cfg : Config) (rest : List PortEvent), s.inbox = .reset cfg :: rest →
    (configLegal cfg = true → step s = .next
      { seq := ⟨.disabled, .disabled, .disabled⟩, mode := ⟨.openLoop, .openLoop, .openLoop⟩, sessionOpen := true,
        cfgMaxPos := cfg.maxPos, cfgMaxVolt := cfg.maxVolt, config := cfg, exchange := none, rxBuf := [],
        txStream := [], rxStream := s.rxStream, response := none, history := [], inbox := rest,
        verdicts := if s.exchange = none then s.verdicts else s.verdicts.drop 1 }) ∧
    (configLegal cfg = false → step s = .refused .illegalConfiguration)

/-- R8, R18: a step runs the decoded instruction: the event is taken, then `exec` of what its words decode to. That the
next instruction is the first event of a list, and that words which decode to nothing are refused by name, is the
model's choice (log entries 5 and 24). -/
def Obligations.StepRunsDecodedInstruction : Prop :=
  ∀ (s : State) (w : Encoded) (rest : List PortEvent), s.inbox = .instr w :: rest →
    (∀ i, decode s.config w = .ok i → step s = exec i { s with inbox := rest }) ∧
    (∀ e, decode s.config w = .error e → step s = .refused (.undecodable e))

/-- R165, R179: with nothing at the ports a block that waits in an `RxRead` is stuck; a failure of the access in
progress ends the waiting command with `TransportFailure` and no register write. That an idle block stays as it is,
that such a failure changes nothing when no access is in progress, and what a failed read leaves (the buffer dropped,
the moved bytes gone from the stream) is the model's (log entries 5, 13, 14 and 15). -/
def Obligations.HangsAndWhatLiftsThem : Prop :=
  ∀ s : State,
    (s.inbox = [] → (s.exchange = none → step s = .next s) ∧ (∀ x, s.exchange = some x → step s = .fault .stuckInRxRead)) ∧
    (∀ moved rest, s.inbox = .failAccess moved :: rest →
      (∀ x, s.exchange = some x → step s = .next (report (.error .transportFailure)
        { s with inbox := rest, exchange := none, rxBuf := [], rxStream := s.rxStream.drop moved,
                 verdicts := s.verdicts.drop 1 })) ∧
      (s.exchange = none → step s = .next { s with inbox := rest }))

/-! ### Encoding -/

/-- R60, R67, R76 to R78: decoding what the encoder writes gives the instruction back, for every well-formed
instruction whose operands the port widths of the configuration carry (R10, R76), and every configuration whose enable
and disable codes are two different bytes. -/
def Obligations.DecodeEncodeAgree : Prop :=
  ∀ (cfg : Config) (i : Instr), fitsByte cfg.enCode = true → fitsByte cfg.disCode = true → cfg.enCode ≠ cfg.disCode →
    i.wellFormed = true → i.presentable cfg = true → decode cfg (encode cfg i) = .ok i

/-- R60: no bit of a wire frame is dropped: what a frame or reply decodes to encodes to the same bytes. -/
def Obligations.WireFramesEncodeBack : Prop :=
  ∀ (cfg : Config) (bs : List Byte) (i : Instr),
    (decode cfg (.toDevice bs) = .ok i → encode cfg i = .toDevice bs) ∧
    (decode cfg (.fromDevice bs) = .ok i → encode cfg i = .fromDevice bs)

/-- R58, R67, R77: five words written out from the spec's tables decode to the instructions they stand for. -/
def Obligations.WrittenOutWordsDecode : Prop :=
  decode Config.default (.toDevice [0x23, 0x02, 0x00, 0x00, 0x50, 0x01]) = .ok (.frameIdentify 0 0) ∧
  decode Config.default (.toDevice [0x10, 0x02, 0x01, 0x02, 0x22, 0x01]) = .ok (.frameDisable 1 0x22) ∧
  decode Config.default (.toDevice [0x46, 0x06, 0x04, 0x00, 0xA1, 0x01, 0x01, 0x00, 0x00, 0x40]) =
    .ok (.frameSetPos 0x21 1 0 16384) ∧
  decode Config.default (.fromDevice [0x41, 0x06, 0x01, 0x02, 0x21, 0x01]) = .ok (.reply6 0x41 0x06 0x01 0x02 0x21 0x01) ∧
  decode Config.default (.command { CmdRecord.bare 0x0A with ch := 3, val := 10000, steps := 4, delay := 50 }) =
    .ok (.rampVolt 3 10000 4 50)

/-! ### Wire frames and replies -/

/-- R44, R67: each short-frame instruction with the configuration's parameters, for the controller or a channel's bay,
writes exactly the bytes of its row. -/
def Obligations.ShortFramesAreWritten : Prop :=
  ∀ (s : State) (c : Chan), s.exchange = none → s.sessionOpen = true → configLegal s.config = true → NoFailure s →
    let ci := identByte s.config c
    let q := BitVec.ofInt 8 s.config.queryP2
    exec (.frameIdentify s.config.identP1 s.config.identP2) s =
      wrote [0x23, 0x02, s.config.identP1, s.config.identP2, 0x50, 0x01] s ∧
    exec (.frameEnable ci (chanField c)) s = wrote [0x10, 0x02, ci, BitVec.ofInt 8 s.config.enCode, bay c, 0x01] s ∧
    exec (.frameDisable ci (chanField c)) s = wrote [0x10, 0x02, ci, BitVec.ofInt 8 s.config.disCode, bay c, 0x01] s ∧
    exec (.frameReqEnable ci q (chanField c)) s = wrote [0x11, 0x02, ci, q, bay c, 0x01] s ∧
    (∀ m, m = BitVec.ofInt 8 s.config.modeCodeOpen ∨ m = BitVec.ofInt 8 s.config.modeCodeClosed →
      exec (.frameSetMode ci m (chanField c)) s = wrote [0x40, 0x06, ci, m, bay c, 0x01] s) ∧
    exec (.frameReqMode ci q (chanField c)) s = wrote [0x41, 0x06, ci, q, bay c, 0x01] s ∧
    exec (.frameReqVolt ci q (chanField c)) s = wrote [0x44, 0x06, ci, q, bay c, 0x01] s ∧
    exec (.frameReqPos ci q (chanField c)) s = wrote [0x47, 0x06, ci, q, bay c, 0x01] s ∧
    exec (.frameZero ci q (chanField c)) s = wrote [0x58, 0x06, ci, q, bay c, 0x01] s

/-- R44, R57, R66, R67: the two long-frame instructions, with the channel ident word and any scaled value in 0..32767,
write a header of length 4 with the data-packet bit set, then the payload, value little-endian. -/
def Obligations.LongFramesAreWritten : Prop :=
  ∀ (s : State) (c : Chan) (v : Word16), s.exchange = none → s.sessionOpen = true → configLegal s.config = true →
    NoFailure s → v.toNat ≤ 32767 →
    let ci := identByte s.config c
    let v0 : Byte := v.setWidth 8
    let v1 : Byte := (v >>> 8).setWidth 8
    exec (.frameSetVolt (chanField c) ci 0x00 v) s =
      wrote [0x43, 0x06, 0x04, 0x00, bay c ||| 0x80, 0x01, ci, 0x00, v0, v1] s ∧
    exec (.frameSetPos (chanField c) ci 0x00 v) s =
      wrote [0x46, 0x06, 0x04, 0x00, bay c ||| 0x80, 0x01, ci, 0x00, v0, v1] s

/-- R44, R46, R37, R73: a listed frame whose write fails leaves the first bytes of it on the wire (log entry 14) and
reports `TransportFailure`, nothing else; a frame that is none of the eleven of R67 under the configuration is never
sent; no frame is written in a closed session or while an exchange is in flight. -/
def Obligations.FrameWritesFailOrAreRefused : Prop :=
  ∀ (s : State) (i : Instr) (bs : List Byte), encode s.config i = .toDevice bs →
    (configLegal s.config = true → isBlockFrame s.config bs = true → ∀ moved vs, s.exchange = none →
      s.sessionOpen = true → s.verdicts = .fails moved :: vs →
      exec i s = .next (report (.error .transportFailure) { s with txStream := s.txStream ++ bs.take moved, verdicts := vs })) ∧
    (isBlockFrame s.config bs = false → s.exchange = none → s.sessionOpen = true → exec i s = .refused .frameNotListed) ∧
    (s.exchange ≠ none → exec i s = .refused .busy) ∧
    (s.exchange = none → s.sessionOpen = false → exec i s = .refused .sessionClosed)

/-- R168: a reply that arrives when no read is outstanding waits in the receive stream, and nothing else changes. -/
def Obligations.UnaskedRepliesWaitInTheStream : Prop :=
  ∀ (s : State) (i : Instr) (bs : List Byte), encode s.config i = .fromDevice bs →
    s.exchange = none → exec i s = .next { s with rxStream := s.rxStream ++ bs }

/-- R45, R126, R141, R142: a reply that completes the six bytes a status query waits for ends it: the status byte at
offset 3 is its result, and for POLLZERO `0x02` and only `0x02` makes the channel ready; what is left of the bytes stays
in the stream. -/
def Obligations.RepliesAnswerStatusQueries : Prop :=
  ∀ (s : State) (i : Instr) (bs : List Byte) (c : Chan), encode s.config i = .fromDevice bs →
    NoFailure s →
    let got := s.rxBuf ++ s.rxStream ++ bs
    let t := { s with
      exchange := none, rxBuf := [], rxStream := got.drop 6, history := s.history ++ [.rx 6 (got.take 6)],
      verdicts := s.verdicts.drop 1 }
    (s.exchange = some (.getMode c) ∨ s.exchange = some (.getEnable c) →
      exec i s = .next (report (.ok (.byte (got.getD 3 0))) t)) ∧
    (s.exchange = some (.pollZero c) → got.getD 3 0 = 0x02 →
      exec i s = .next (report (.ok (.bool true)) { t with seq := s.seq.set c .closedLoopReady })) ∧
    (s.exchange = some (.pollZero c) → got.getD 3 0 ≠ 0x02 → exec i s = .next (report (.ok (.bool false)) t))

/-- R45, R143, R144: a reply that completes the ten bytes a value query waits for ends it, position unsigned and
floored, voltage signed and exact; with fewer than ten bytes the block keeps them and goes on waiting. -/
def Obligations.RepliesAnswerValueQueries : Prop :=
  ∀ (s : State) (i : Instr) (bs : List Byte) (c : Chan), encode s.config i = .fromDevice bs →
    NoFailure s →
    let got := s.rxBuf ++ s.rxStream ++ bs
    let t := { s with
      exchange := none, rxBuf := [], rxStream := got.drop 10, history := s.history ++ [.rx 10 (got.take 10)],
      verdicts := s.verdicts.drop 1 }
    (s.exchange = some (.getPosition c) → 10 ≤ got.length →
      exec i s = .next (report (.ok (.int
        (((got.getD 8 0).toNat + 256 * (got.getD 9 0).toNat : Int) * s.cfgMaxPos / 32767))) t)) ∧
    (s.exchange = some (.getVolt c) → 10 ≤ got.length →
      exec i s = .next (report (.ok (.ratio ⟨readingOf got * s.cfgMaxVolt, 32767, by decide⟩)) t)) ∧
    (∀ x, s.exchange = some x → replyLen x = 10 → got.length < 10 →
      exec i s = .next { s with rxBuf := got, rxStream := [] })

/-! ### Function units -/

/-- R85, R86: the six bytes of a short frame, the destination placed as given; of a long frame the data-packet bit set,
the payload's length in place of p1 and p2, then the payload; a length above 65535 fails with `OutOfRange`. -/
def Obligations.FrameEncoders : Prop :=
  (∀ (op : Word16) (p1 p2 d src : Byte), Answers (.encodeShort op p1 p2 d src) fun _ =>
    .ok (.bytes [op.setWidth 8, (op >>> 8).setWidth 8, p1, p2, d, src])) ∧
  (∀ (op : Word16) (d src : Byte) (payload : List Byte), Answers (.encodeLong op d src payload) fun _ =>
    if payload.length ≤ 65535 then
      .ok (.bytes ([op.setWidth 8, (op >>> 8).setWidth 8, BitVec.ofNat 8 payload.length,
        BitVec.ofNat 8 (payload.length / 256), d ||| 0x80, src] ++ payload))
    else .error .outOfRange)

/-- R87: the fields of six or more bytes, bit 7 of the destination kept, nothing checked; fewer bytes are outside the
unit's domain and the model refuses them. -/
def Obligations.DecodeReturnsTheFields : Prop :=
  (∀ (o0 o1 p1 p2 d src : Byte) (payload : List Byte),
    Answers (.decodeRaw (o0 :: o1 :: p1 :: p2 :: d :: src :: payload)) fun _ =>
      .ok (.header ⟨BitVec.ofNat 16 (o0.toNat + 256 * o1.toNat), p1, p2, d, src, payload⟩)) ∧
  (∀ (raw : List Byte) (s : State), raw.length < 6 → exec (.decodeRaw raw) s = .refused .outsideDomain)

/-- R88, R89: the signed conversions, two's complement, little-endian, `OutOfRange` outside their ranges. -/
def Obligations.SignedConversions : Prop :=
  (∀ v : Int, Answers (.int2b1 v) fun _ =>
    if v < -128 ∨ v > 127 then .error .outOfRange else .ok (.bytes [BitVec.ofNat 8 (v % 256).toNat])) ∧
  (∀ v : Int, Answers (.int2b2 v) fun _ =>
    if v < -32768 ∨ v > 32767 then .error .outOfRange
    else .ok (.bytes [BitVec.ofNat 8 (v % 65536).toNat, BitVec.ofNat 8 ((v % 65536).toNat / 256)]))

/-- R90, R91: `b0 + 256*b1`, and the same less 65536 from 32768 on. -/
def Obligations.SixteenBitReassembly : Prop :=
  (∀ b0 b1 : Byte, Answers (.b2u16 b0 b1) fun _ => .ok (.int (b0.toNat + 256 * b1.toNat))) ∧
  (∀ b0 b1 : Byte, Answers (.b2i16 b0 b1) fun _ =>
    .ok (.int (if b0.toNat + 256 * b1.toNat < 32768 then b0.toNat + 256 * b1.toNat
      else (b0.toNat + 256 * b1.toNat : Int) - 65536)))

/-- R92: the four laws of the codec: lengths, DECODE of a short and of a long frame, and the two reassemblies of what
INT2B2 returns. -/
def Obligations.CodecLaws : Prop :=
  (∀ o p1 p2 d src, (encodeShort o p1 p2 d src).length = 6 ∧
    decodeHeader (encodeShort o p1 p2 d src) = some ⟨o, p1, p2, d, src, []⟩) ∧
  (∀ o d src p bs, encodeLong o d src p = .ok bs → bs.length = 6 + p.length ∧
    decodeHeader bs = some ⟨o, BitVec.ofNat 8 (p.length % 256), BitVec.ofNat 8 (p.length / 256), d ||| 0x80, src, p⟩) ∧
  (∀ v b0 b1, int2b2 v = .ok [b0, b1] → b2i16 b0 b1 = v ∧ b2u16 b0 b1 = if 0 ≤ v then v else v + 65536)

/-- R101: the rounding of `n/d` is `round_he` over the rationals, with its three cases, and it is symmetric. -/
def Obligations.RoundHalfToEven : Prop :=
  ∀ (n : Int) (d : Nat), 0 < d →
    IsRoundHe ((n : ℚ) / d) (roundQ .halfEven n d) ∧ roundQ .halfEven (-n) d = -roundQ .halfEven n d

/-- R103: POS2SCALED under the spec's rounding: the exact quotient rounded once, `OutOfRange` outside -32768..32767. -/
def Obligations.PositionToScaled : Prop :=
  ∀ (pos : Int) (max : Maximum) (s : State), s.exchange = none → s.sessionOpen = true → s.config.tie = .halfEven →
    ∃ z, IsRoundHe ((pos : ℚ) * 32767 / max.val) z ∧
      exec (.pos2Scaled pos max) s =
        .next (report (if z < -32768 ∨ z > 32767 then .error .outOfRange else .ok (.int z)) s)

/-- R104: SCALED2POS: unsigned, exact, floored once, never clamped. -/
def Obligations.ScaledToPosition : Prop :=
  ∀ (raw : Word16) (max : Maximum), Answers (.scaled2Pos raw max) fun _ =>
    .ok (.int ⌊(raw.toNat : ℚ) * max.val / 32767⌋)

/-- R105: VOLT2SCALED of a rational number of volts, under the spec's rounding. -/
def Obligations.VoltageToScaled : Prop :=
  ∀ (v : Ratio) (max : Maximum) (s : State), s.exchange = none → s.sessionOpen = true → s.config.tie = .halfEven →
    ∃ z, IsRoundHe ((v.num : ℚ) / v.den * 32767 / max.val) z ∧
      exec (.volt2Scaled v max) s =
        .next (report (if z < -32768 ∨ z > 32767 then .error .outOfRange else .ok (.int z)) s)

/-- R106: SCALED2VOLT: signed, the exact rational, no rounding. -/
def Obligations.ScaledToVoltage : Prop :=
  ∀ (raw : Word16) (max : Maximum) (s : State), s.exchange = none → s.sessionOpen = true →
    ∃ q : Ratio, (q.num : ℚ) / q.den = (raw.toInt : ℚ) * max.val / 32767 ∧
      exec (.scaled2Volt raw max) s = .next (report (.ok (.ratio q)) s)

/-- R108, laws 1 to 3, under every tie rule of the configuration: an accepted position or voltage scales, into 0..32767;
POS2SCALED and VOLT2SCALED are monotonic in their first operand wherever both answer; SCALED2POS is monotonic,
SCALED2VOLT strictly increasing. -/
def Obligations.ScalerLaws : Prop :=
  (∀ (tie : TieRule) (v : Int) (max : Nat), 0 < max → 0 ≤ v → v ≤ max →
    ∃ z, posToScaled tie v max = .ok z ∧ 0 ≤ z ∧ z ≤ 32767) ∧
  (∀ (tie : TieRule) (v : Ratio) (max : Nat), 0 < max → 0 ≤ v.num → (v.num : ℚ) / v.den ≤ max →
    ∃ z, voltToScaled tie v.num v.den max = .ok z ∧ 0 ≤ z ∧ z ≤ 32767) ∧
  (∀ (tie : TieRule) (v w : Int) (max : Nat) (y z : Int), 0 < max → v ≤ w →
    posToScaled tie v max = .ok y → posToScaled tie w max = .ok z → y ≤ z) ∧
  (∀ (tie : TieRule) (v w : Ratio) (max : Nat) (y z : Int), 0 < max → (v.num : ℚ) / v.den ≤ w.num / w.den →
    voltToScaled tie v.num v.den max = .ok y → voltToScaled tie w.num w.den max = .ok z → y ≤ z) ∧
  (∀ (tie : TieRule) (v w : Int) (d e : Nat), 0 < d → 0 < e → (v : ℚ) / d ≤ w / e → roundQ tie v d ≤ roundQ tie w e) ∧
  (∀ (r q : Int) (max : Nat), r ≤ q → scaledToPos r max ≤ scaledToPos q max) ∧
  (∀ (r q : Int) (max : Nat), 0 < max → r < q →
    ((scaledToVolt r max).num : ℚ) / (scaledToVolt r max).den < (scaledToVolt q max).num / (scaledToVolt q max).den)

/-- R109: the round trip of a position lies in `(-1 - q/2, q/2]`, `q = max/32767`; for 30000 nm it is 0 or -1. -/
def Obligations.PositionRoundTripBound : Prop :=
  (∀ (pos : Int) (max : Nat), 0 < max → 0 ≤ pos → pos ≤ max → ∃ z, posToScaled .halfEven pos max = .ok z ∧
    -1 - (max : ℚ) / 32767 / 2 < (scaledToPos z max - pos : Int) ∧
    ((scaledToPos z max - pos : Int) : ℚ) ≤ (max : ℚ) / 32767 / 2) ∧
  (∀ pos : Int, 0 ≤ pos → pos ≤ 30000 → ∃ z, posToScaled .halfEven pos 30000 = .ok z ∧
    (scaledToPos z 30000 = pos ∨ scaledToPos z 30000 = pos - 1))

/-- R110: the round trip of a voltage differs by at most half a scaled step. -/
def Obligations.VoltageRoundTripBound : Prop :=
  ∀ (v : Ratio) (max : Nat), 0 < max → 0 ≤ v.num → (v.num : ℚ) / v.den ≤ max →
    ∃ z, voltToScaled .halfEven v.num v.den max = .ok z ∧
      |((scaledToVolt z max).num : ℚ) / (scaledToVolt z max).den - (v.num : ℚ) / v.den| ≤ (max : ℚ) / 65534

/-- R150, R151: the set-point `cur + i*(target - cur)/n`, `cur = r*max/32767`, is the model's quotient; its scaled value
in closed form, its two ends, and its range check. -/
def Obligations.RampSetPointClosedForm : Prop :=
  ∀ (tie : TieRule) (r target : Int) (max n i : Nat), 0 < max → 0 < n → i ≤ n →
    (r : ℚ) * max / 32767 + i * (target - r * max / 32767) / n = setPointNum r target max n i / (32767 * n : Nat) ∧
    (setPointNum r target max n i : ℚ) / (32767 * n : Nat) * 32767 / max =
      (r * max * ((n : Int) - i) + 32767 * target * i : Int) / (max * n : Nat) ∧
    roundQ tie (setPointNum r target max n i * 32767) (32767 * n * max) =
      roundQ tie (r * max * ((n : Int) - i) + 32767 * target * i) (max * n) ∧
    (0 ≤ r → r ≤ 32767 → roundQ tie (setPointNum r target max n 0 * 32767) (32767 * n * max) = r) ∧
    roundQ tie (setPointNum r target max n n * 32767) (32767 * n * max) = roundQ tie (32767 * target) max ∧
    ((0 ≤ (setPointNum r target max n i : ℚ) / (32767 * n : Nat) ∧
        (setPointNum r target max n i : ℚ) / (32767 * n : Nat) ≤ max) ↔
      (0 ≤ r * max * ((n : Int) - i) + 32767 * target * i ∧
        r * max * ((n : Int) - i) + 32767 * target * i ≤ 32767 * max * n))

/-- R115: the table of bay addresses; every other id, negative or large, raises `InvalidChannel`; the unit reports it. -/
def Obligations.BayAddressTable : Prop :=
  (∀ id : Int, bayAddress id =
    if id = 1 then .ok 0x21 else if id = 2 then .ok 0x22 else if id = 3 then .ok 0x23 else .error .invalidChannel) ∧
  (∀ ch : Byte, Answers (.bayAddr ch) fun _ =>
    if ch = 1 then .ok (.byte 0x21) else if ch = 2 then .ok (.byte 0x22) else if ch = 3 then .ok (.byte 0x23)
    else .error .invalidChannel)

/-! ### Commands -/

/-- R121: IDENTIFY writes one frame to the controller and reads nothing. -/
def Obligations.IdentifyWritesOneFrame : Prop :=
  ∀ s : State, Accepts s → NoFailure s → exec .identify s = .next (report (.ok .nothing)
    (played [.tx [0x23, 0x02, s.config.identP1, s.config.identP2, 0x50, 0x01]] s))

/-- R122, R123, R124: ENABLE, DISABLE and SETMODE write their one frame and then the channel's register, `seq[c]` or
`mode[c]`, from any previous value and whatever the other register says. -/
def Obligations.EnableDisableSetMode : Prop :=
  ∀ (s : State) (c : Chan), Accepts s → configLegal s.config = true → NoFailure s →
    exec (.enable (chanByte c)) s = .next (report (.ok .nothing)
      { played [.tx (shortOf s.config c 0x10 0x02 s.config.enCode)] s with seq := s.seq.set c .enabled }) ∧
    exec (.disable (chanByte c)) s = .next (report (.ok .nothing)
      { played [.tx (shortOf s.config c 0x10 0x02 s.config.disCode)] s with seq := s.seq.set c .disabled }) ∧
    exec (.setMode (chanByte c) true) s = .next (report (.ok .nothing)
      { played [.tx (shortOf s.config c 0x40 0x06 s.config.modeCodeClosed)] s with mode := s.mode.set c .closedLoop }) ∧
    exec (.setMode (chanByte c) false) s = .next (report (.ok .nothing)
      { played [.tx (shortOf s.config c 0x40 0x06 s.config.modeCodeOpen)] s with mode := s.mode.set c .openLoop })

/-- R125: ZERO writes the enable frame, even where the channel is enabled, and the zero frame; the state ends at
`ZeroRequested`. -/
def Obligations.ZeroEnablesThenZeroes : Prop :=
  ∀ (s : State) (c : Chan), Accepts s → configLegal s.config = true → NoFailure s →
    exec (.zero (chanByte c)) s = .next (report (.ok .nothing)
      { played [.tx (shortOf s.config c 0x10 0x02 s.config.enCode), .tx (shortOf s.config c 0x58 0x06 s.config.queryP2)] s
        with seq := s.seq.set c .zeroRequested })

/-- R126: POLLZERO on a reply that is there: ready and true exactly when the byte at offset 3 is `0x02`. -/
def Obligations.PollZeroReadsTheStatus : Prop :=
  ∀ (s : State) (c : Chan), Accepts s → configLegal s.config = true → NoFailure s → s.rxBuf = [] →
    6 ≤ s.rxStream.length →
    let t := played [.tx (shortOf s.config c 0x41 0x06 s.config.queryP2), .rx 6 (s.rxStream.take 6)] s
    exec (.pollZero (chanByte c)) s =
      if s.rxStream.getD 3 0 = 0x02 then
        .next (report (.ok (.bool true)) { t with seq := s.seq.set c .closedLoopReady })
      else .next (report (.ok (.bool false)) t)

/-- R141, R142: the status queries return the byte at offset 3 and write no register. -/
def Obligations.StatusQueriesReturnTheByte : Prop :=
  ∀ (s : State) (c : Chan), Accepts s → configLegal s.config = true → NoFailure s → s.rxBuf = [] →
    6 ≤ s.rxStream.length →
    exec (.getMode (chanByte c)) s = .next (report (.ok (.byte (s.rxStream.getD 3 0)))
      (played [.tx (shortOf s.config c 0x41 0x06 s.config.queryP2), .rx 6 (s.rxStream.take 6)] s)) ∧
    exec (.getEnable (chanByte c)) s = .next (report (.ok (.byte (s.rxStream.getD 3 0)))
      (played [.tx (shortOf s.config c 0x11 0x02 s.config.queryP2), .rx 6 (s.rxStream.take 6)] s))

/-- R143: GETPOSITION returns the unsigned value at offsets 8, 9 in nanometres, floored, not clamped. -/
def Obligations.GetPositionReturnsNanometres : Prop :=
  ∀ (s : State) (c : Chan), Accepts s → configLegal s.config = true → NoFailure s → s.rxBuf = [] →
    10 ≤ s.rxStream.length →
    exec (.getPosition (chanByte c)) s = .next (report (.ok (.int
        ⌊((s.rxStream.getD 8 0).toNat + 256 * (s.rxStream.getD 9 0).toNat : ℚ) * s.cfgMaxPos / 32767⌋))
      (played [.tx (shortOf s.config c 0x47 0x06 s.config.queryP2), .rx 10 (s.rxStream.take 10)] s))

/-- R144, R111: GETVOLT returns the exact rational of the signed value at offsets 8, 9; with the spec's `QV` the port
carries its floor, where that fits the `VAL_W` bits of the port. -/
def Obligations.GetVoltReturnsTheRational : Prop :=
  ∀ (s : State) (c : Chan), Accepts s → configLegal s.config = true → NoFailure s → s.rxBuf = [] →
    10 ≤ s.rxStream.length → ∃ (q : Ratio) (t : State),
    (q.num : ℚ) / q.den = (readingOf s.rxStream : ℚ) * s.cfgMaxVolt / 32767 ∧
    t = report (.ok (.ratio q))
      (played [.tx (shortOf s.config c 0x44 0x06 s.config.queryP2), .rx 10 (s.rxStream.take 10)] s) ∧
    exec (.getVolt (chanByte c)) s = .next t ∧
    (s.config.qv = .floor → fitsSigned s.config.valW ⌊(readingOf s.rxStream : ℚ) * s.cfgMaxVolt / 32767⌋ = true →
      t.response = some ⟨0, ⌊(readingOf s.rxStream : ℚ) * s.cfgMaxVolt / 32767⌋, .ratio q⟩)

/-- R127: POSITION of a ready channel in range writes one set-position frame with the scaled value; registers stay. -/
def Obligations.PositionMovesAReadyChannel : Prop :=
  ∀ (s : State) (c : Chan) (pos : Int), Accepts s → configLegal s.config = true → NoFailure s →
    s.seq.get c = .closedLoopReady → 0 ≤ pos → pos ≤ s.cfgMaxPos →
    exec (.position (chanByte c) pos) s = .next (report (.ok .nothing)
      (played [.tx (longOf s.config c 0x46 (roundQ s.config.tie (pos * 32767) s.cfgMaxPos))] s))

/-- R127, R164, R167: POSITION of a channel that is not ready raises `PreconditionNotMet` whatever the position; of a
ready one out of range `OutOfRange`; nothing is sent. -/
def Obligations.PositionIsRefusedWithAnError : Prop :=
  ∀ (s : State) (c : Chan) (pos : Int), Accepts s →
    (s.seq.get c ≠ .closedLoopReady →
      exec (.position (chanByte c) pos) s = .next (report (.error .preconditionNotMet) s)) ∧
    (s.seq.get c = .closedLoopReady → (pos < 0 ∨ pos > s.cfgMaxPos) →
      exec (.position (chanByte c) pos) s = .next (report (.error .outOfRange) s))

/-- R128: SETVOLT in range writes one set-voltage frame in every state of the channel; out of range it raises
`OutOfRange` and sends nothing. -/
def Obligations.SetVoltScalesOrRejects : Prop :=
  ∀ (s : State) (c : Chan) (volts : Int), Accepts s →
    (configLegal s.config = true → NoFailure s → 0 ≤ volts → volts ≤ s.cfgMaxVolt →
      exec (.setVolt (chanByte c) volts) s = .next (report (.ok .nothing)
        (played [.tx (longOf s.config c 0x43 (roundQ s.config.tie (volts * 32767) s.cfgMaxVolt))] s))) ∧
    (volts < 0 ∨ volts > s.cfgMaxVolt →
      exec (.setVolt (chanByte c) volts) s = .next (report (.error .outOfRange) s))

/-- R150, R151: a ramp from a reading that is not negative: the query, its reply, `steps + 1` set-points with a wait
between two; no register is written. -/
def Obligations.RampWritesEverySetPoint : Prop :=
  ∀ (s : State) (c : Chan) (target : Int) (steps : Word16) (delayMs : Word32), Accepts s →
    configLegal s.config = true → NoFailure s → s.rxBuf = [] → 10 ≤ s.rxStream.length → steps ≠ 0 →
    0 ≤ target → target ≤ s.cfgMaxVolt → 0 ≤ readingOf s.rxStream →
    exec (.rampVolt (chanByte c) target steps delayMs) s = .next (report (.ok .nothing)
      (played (rampHistory s c target steps.toNat delayMs (s.rxStream.take 10)) s))

/-- R150, R167, R200: `steps = 0` and a target out of range are `OutOfRange` with nothing sent; a negative reading is
`OutOfRange` after the query and before any set-point. -/
def Obligations.RampRejectsBeforeSetPoints : Prop :=
  ∀ (s : State) (c : Chan) (target : Int) (steps : Word16) (delayMs : Word32), Accepts s →
    ((steps = 0 ∨ target < 0 ∨ target > s.cfgMaxVolt) →
      exec (.rampVolt (chanByte c) target steps delayMs) s = .next (report (.error .outOfRange) s)) ∧
    (configLegal s.config = true → NoFailure s → s.rxBuf = [] → 10 ≤ s.rxStream.length → steps ≠ 0 →
      0 ≤ target → target ≤ s.cfgMaxVolt → readingOf s.rxStream < 0 →
      exec (.rampVolt (chanByte c) target steps delayMs) s = .next (report (.error .outOfRange)
        (played [.tx (shortOf s.config c 0x44 0x06 s.config.queryP2), .rx 10 (s.rxStream.take 10)] s)))

/-- R152, R171, R200: SHUTDOWN with three readings that are not negative: per channel open loop and a ramp to 0, then the
transport is released and the session closed; `seq` is unchanged. A negative reading of a channel ends it with
`OutOfRange` after that reading, later channels untouched, and a failed `Close` with `TransportFailure`: no `Close`
event (log entry 14), the session still open. -/
def Obligations.ShutdownRampsAndCloses : Prop :=
  ∀ s : State, Accepts s → configLegal s.config = true → s.rxBuf = [] →
    let b1 := s.rxStream.take 10
    let b2 := (s.rxStream.drop 10).take 10
    let b3 := (s.rxStream.drop 20).take 10
    let all := shutHistory s .ch1 b1 ++ shutHistory s .ch2 b2 ++ shutHistory s .ch3 b3
    (NoFailure s → 30 ≤ s.rxStream.length → 0 ≤ readingOf b1 → 0 ≤ readingOf b2 → 0 ≤ readingOf b3 →
      exec .shutdown s = .next (report (.ok .nothing)
        { played (all ++ [.close]) s with mode := ⟨.openLoop, .openLoop, .openLoop⟩, sessionOpen := false })) ∧
    (NoFailure s → 10 ≤ s.rxStream.length → readingOf b1 < 0 →
      exec .shutdown s = .next (report (.error .outOfRange)
        { played (shutStop s .ch1 b1) s with mode := s.mode.set .ch1 .openLoop })) ∧
    (NoFailure s → 20 ≤ s.rxStream.length → 0 ≤ readingOf b1 → readingOf b2 < 0 →
      exec .shutdown s = .next (report (.error .outOfRange)
        { played (shutHistory s .ch1 b1 ++ shutStop s .ch2 b2) s with
          mode := (s.mode.set .ch1 .openLoop).set .ch2 .openLoop })) ∧
    (NoFailure s → 30 ≤ s.rxStream.length → 0 ≤ readingOf b1 → 0 ≤ readingOf b2 → readingOf b3 < 0 →
      exec .shutdown s = .next (report (.error .outOfRange)
        { played (shutHistory s .ch1 b1 ++ shutHistory s .ch2 b2 ++ shutStop s .ch3 b3) s with
          mode := ⟨.openLoop, .openLoop, .openLoop⟩ })) ∧
    (∀ moved vs, s.verdicts = List.replicate (3 * (s.config.shutSteps.toNat + 4)) .completes ++ .fails moved :: vs →
      30 ≤ s.rxStream.length → 0 ≤ readingOf b1 → 0 ≤ readingOf b2 → 0 ≤ readingOf b3 →
      exec .shutdown s = .next (report (.error .transportFailure)
        { played all s with mode := ⟨.openLoop, .openLoop, .openLoop⟩, verdicts := vs }))

/-- R116: every channel-taking command with a channel outside 1, 2, 3 raises `InvalidChannel` and does nothing else,
whatever its other operands. -/
def Obligations.InvalidChannelComesFirst : Prop :=
  ∀ (s : State) (i : Instr) (ch : Byte), Accepts s → channelOperand i = some ch → ch ≠ 1 → ch ≠ 2 → ch ≠ 3 →
    exec i s = .next (report (.error .invalidChannel) s)

/-- R45, R150, R152, R179: a command whose reply has not come has written its request and waits, all bytes that came in
its buffer; it reports nothing. A ramp waits before any set-point; SHUTDOWN waits at the first channel whose reply is
not there, the channels before it done and that one already set to open loop. -/
def Obligations.QueriesWaitForTheirReply : Prop :=
  ∀ (s : State) (c : Chan), Accepts s → configLegal s.config = true → NoFailure s → s.rxBuf = [] →
    (s.rxStream.length < 6 →
      exec (.pollZero (chanByte c)) s = .next { played [.tx (shortOf s.config c 0x41 0x06 s.config.queryP2)] s with
        exchange := some (.pollZero c), rxBuf := s.rxStream, rxStream := [] } ∧
      exec (.getMode (chanByte c)) s = .next { played [.tx (shortOf s.config c 0x41 0x06 s.config.queryP2)] s with
        exchange := some (.getMode c), rxBuf := s.rxStream, rxStream := [] } ∧
      exec (.getEnable (chanByte c)) s = .next { played [.tx (shortOf s.config c 0x11 0x02 s.config.queryP2)] s with
        exchange := some (.getEnable c), rxBuf := s.rxStream, rxStream := [] }) ∧
    (s.rxStream.length < 10 →
      exec (.getPosition (chanByte c)) s = .next { played [.tx (shortOf s.config c 0x47 0x06 s.config.queryP2)] s with
        exchange := some (.getPosition c), rxBuf := s.rxStream, rxStream := [] } ∧
      exec (.getVolt (chanByte c)) s = .next { played [.tx (voltRequest s c)] s with
        exchange := some (.getVolt c), rxBuf := s.rxStream, rxStream := [] } ∧
      (∀ (target : Int) (steps : Word16) (delayMs : Word32), steps ≠ 0 → 0 ≤ target → target ≤ s.cfgMaxVolt →
        exec (.rampVolt (chanByte c) target steps delayMs) s = .next { played [.tx (voltRequest s c)] s with
          exchange := some (.ramp c target steps delayMs), rxBuf := s.rxStream, rxStream := [] }) ∧
      exec .shutdown s = .next { played [.tx (openFrame s .ch1), .tx (voltRequest s .ch1)] s with
        mode := s.mode.set .ch1 .openLoop, exchange := some (.shutdown .ch1), rxBuf := s.rxStream, rxStream := [] }) ∧
    (10 ≤ s.rxStream.length → s.rxStream.length < 20 → 0 ≤ readingOf s.rxStream →
      exec .shutdown s = .next
        { played (shutHistory s .ch1 (s.rxStream.take 10) ++ [.tx (openFrame s .ch2), .tx (voltRequest s .ch2)]) s with
          mode := (s.mode.set .ch1 .openLoop).set .ch2 .openLoop, exchange := some (.shutdown .ch2)
          rxBuf := s.rxStream.drop 10, rxStream := [] }) ∧
    (20 ≤ s.rxStream.length → s.rxStream.length < 30 → 0 ≤ readingOf s.rxStream →
      0 ≤ readingOf (s.rxStream.drop 10) →
      exec .shutdown s = .next
        { played (shutHistory s .ch1 (s.rxStream.take 10) ++ shutHistory s .ch2 ((s.rxStream.drop 10).take 10) ++
            [.tx (openFrame s .ch3), .tx (voltRequest s .ch3)]) s with
          mode := ⟨.openLoop, .openLoop, .openLoop⟩, exchange := some (.shutdown .ch3)
          rxBuf := s.rxStream.drop 20, rxStream := [] })

/-- R46, R120, R150, R152, R165: each of the fourteen commands, its checks passed, whose first write fails raises
`TransportFailure` and writes no register; so does a query or a ramp whose read fails after the request; ZERO whose
second write fails ends at `Enabled`; SHUTDOWN whose request or read for channel 1 fails ends with that channel in open
loop; a ramp whose write of set-point `j` fails stops there, what it sent before stays sent. That of a failed write the
first moved bytes are on the wire without a `Tx` event, and of a failed read the moved bytes gone and the buffer empty,
is the model's (log entries 14 and 15). -/
def Obligations.FailedWritesSkipTheRegister : Prop :=
  ∀ (s : State) (moved : Nat) (vs : List Verdict), Accepts s → configLegal s.config = true →
    (∀ i frame, firstFrame s i = some frame → s.verdicts = .fails moved :: vs →
      exec i s = .next (report (.error .transportFailure)
        { s with txStream := s.txStream ++ frame.take moved, verdicts := vs })) ∧
    (∀ i frame, readsReply i = true → firstFrame s i = some frame → s.verdicts = .completes :: .fails moved :: vs →
      exec i s = .next (report (.error .transportFailure)
        { s with
          txStream := s.txStream ++ frame, history := s.history ++ [.tx frame], rxBuf := []
          rxStream := s.rxStream.drop moved, verdicts := vs })) ∧
    (∀ c : Chan, s.verdicts = .completes :: .fails moved :: vs →
      exec (.zero (chanByte c)) s = .next (report (.error .transportFailure) { s with
        seq := s.seq.set c .enabled
        txStream := s.txStream ++ shortOf s.config c 0x10 0x02 s.config.enCode ++
          (shortOf s.config c 0x58 0x06 s.config.queryP2).take moved
        history := s.history ++ [.tx (shortOf s.config c 0x10 0x02 s.config.enCode)]
        verdicts := vs })) ∧
    (s.verdicts = .completes :: .fails moved :: vs →
      exec .shutdown s = .next (report (.error .transportFailure) { s with
        mode := s.mode.set .ch1 .openLoop
        txStream := s.txStream ++ openFrame s .ch1 ++ (voltRequest s .ch1).take moved
        history := s.history ++ [.tx (openFrame s .ch1)]
        verdicts := vs })) ∧
    (s.verdicts = .completes :: .completes :: .fails moved :: vs →
      exec .shutdown s = .next (report (.error .transportFailure) { s with
        mode := s.mode.set .ch1 .openLoop
        txStream := s.txStream ++ openFrame s .ch1 ++ voltRequest s .ch1
        history := s.history ++ [.tx (openFrame s .ch1), .tx (voltRequest s .ch1)]
        rxBuf := [], rxStream := s.rxStream.drop moved, verdicts := vs })) ∧
    (∀ (c : Chan) (target : Int) (steps : Word16) (delayMs : Word32) (j : Nat), steps ≠ 0 → 0 ≤ target →
      target ≤ s.cfgMaxVolt → s.rxBuf = [] → 10 ≤ s.rxStream.length → 0 ≤ readingOf s.rxStream → j ≤ steps.toNat →
      s.verdicts = List.replicate (2 + j) .completes ++ .fails moved :: vs →
      let frame := setPointFrame s c (readingOf s.rxStream) target steps.toNat
      let t := played ([.tx (voltRequest s c), .rx 10 (s.rxStream.take 10)] ++ rampPrefix frame delayMs j) s
      exec (.rampVolt (chanByte c) target steps delayMs) s = .next (report (.error .transportFailure)
        { t with txStream := t.txStream ++ (frame j).take moved, verdicts := vs }))

/-! ### Refusals -/

/-- R78, R180: the six reserved select codes are refused in every state. -/
def Obligations.ReservedCodesAreRefused : Prop :=
  ∀ s : State, exec .reserved0E s = .refused (.reservedCode 0x0E) ∧ exec .reserved0F s = .refused (.reservedCode 0x0F) ∧
    exec .reserved1C s = .refused (.reservedCode 0x1C) ∧ exec .reserved1D s = .refused (.reservedCode 0x1D) ∧
    exec .reserved1E s = .refused (.reservedCode 0x1E) ∧ exec .reserved1F s = .refused (.reservedCode 0x1F)

/-- R180, R192: no command and no function unit starts while another executes or after the session is closed. -/
def Obligations.NothingStartsWhenBusyOrClosed : Prop :=
  ∀ (s : State) (i : Instr), onCommandPort i = true → i.wellFormed = true →
    (s.exchange ≠ none → exec i s = .refused .busy) ∧
    (s.exchange = none → s.sessionOpen = false → exec i s = .refused .sessionClosed)

/-! ### The report and the views -/

/-- R76, R161, R166: the codes on the response port, value 0 with every error and with no result; codes 5 to 7 never. A
value fits the port's `VAL_W` bits always; a boolean is 1 or 0 (R126), a byte zero-extended (R141, R142), an integer
itself (R143), a rational its floor under the spec's `QV` (R111, R144), each where it fits. -/
def Obligations.ResponseRecord : Prop :=
  ∀ s : State,
    ((report (.ok .nothing) s).response = some ⟨0, 0, .nothing⟩) ∧
    ((report (.error .invalidChannel) s).response = some ⟨1, 0, .nothing⟩) ∧
    ((report (.error .outOfRange) s).response = some ⟨2, 0, .nothing⟩) ∧
    ((report (.error .preconditionNotMet) s).response = some ⟨3, 0, .nothing⟩) ∧
    ((report (.error .transportFailure) s).response = some ⟨4, 0, .nothing⟩) ∧
    (∀ r, ∃ v, (report (.ok r) s).response = some ⟨0, v, r⟩ ∧ fitsSigned s.config.valW v = true) ∧
    (∀ b : Bool, fitsSigned s.config.valW 1 = true →
      (report (.ok (.bool b)) s).response = some ⟨0, if b then 1 else 0, .bool b⟩) ∧
    (∀ b : Byte, fitsSigned s.config.valW b.toNat = true →
      (report (.ok (.byte b)) s).response = some ⟨0, b.toNat, .byte b⟩) ∧
    (∀ v : Int, fitsSigned s.config.valW v = true → (report (.ok (.int v)) s).response = some ⟨0, v, .int v⟩) ∧
    (∀ q : Ratio, s.config.qv = .floor → fitsSigned s.config.valW ⌊(q.num : ℚ) / q.den⌋ = true →
      (report (.ok (.ratio q)) s).response = some ⟨0, ⌊(q.num : ℚ) / q.den⌋, .ratio q⟩)

/-- R20, R30, R15: the two views of `seq[c]`; the bay address is the constant of the channel, whatever the state; the
status port shows `seq` and `mode` in the encodings of R15, the session flag and the two maxima. That it is shown in
the states between steps and at waiting reads, not at every point inside a step, is the model's (log entry 28). -/
def Obligations.ViewsOfTheSequencer : Prop :=
  ∀ (s : State) (c : Chan),
    (enableState s c = true ↔ s.seq.get c ≠ .disabled) ∧ (zeroComplete s c = true ↔ s.seq.get c = .closedLoopReady) ∧
    bayAddress (chanByte c).toNat = .ok (bay c) ∧
    ((statusPort s).seq.get c = 0 ↔ s.seq.get c = .disabled) ∧
    ((statusPort s).seq.get c = 1 ↔ s.seq.get c = .enabled) ∧
    ((statusPort s).seq.get c = 2 ↔ s.seq.get c = .zeroRequested) ∧
    ((statusPort s).seq.get c = 3 ↔ s.seq.get c = .closedLoopReady) ∧
    ((statusPort s).mode.get c = 0 ↔ s.mode.get c = .openLoop) ∧
    ((statusPort s).mode.get c = 1 ↔ s.mode.get c = .closedLoop) ∧
    (statusPort s).sessionOpen = s.sessionOpen ∧ (statusPort s).cfgMaxPos = s.cfgMaxPos ∧
    (statusPort s).cfgMaxVolt = s.cfgMaxVolt

/-! ### Rules of the whole machine -/

/-- R31, R22: what an instruction can write: `seq` only ENABLE, DISABLE, ZERO, POLLZERO (or the reply POLLZERO waits
for), `mode` only SETMODE and SHUTDOWN, `session_open` only SHUTDOWN; the configuration registers none; the history and
the transmit stream only grow. -/
def Obligations.WriteTableOfTheRegisters : Prop :=
  ∀ (s t : State) (i : Instr), exec i s = .next t →
    t.config = s.config ∧ t.cfgMaxPos = s.cfgMaxPos ∧ t.cfgMaxVolt = s.cfgMaxVolt ∧ t.inbox = s.inbox ∧
    (writesSeq s i = false → t.seq = s.seq) ∧ (writesMode s i = false → t.mode = s.mode) ∧
    (isShutdown s i = false → t.sessionOpen = s.sessionOpen) ∧
    (∃ es, t.history = s.history ++ es) ∧ (∃ bs, t.txStream = s.txStream ++ bs)

/-- R129, R32: a command of one channel leaves the registers of the other channels, however it ends. -/
def Obligations.ChannelsAreIndependent : Prop :=
  ∀ (s t : State) (i : Instr) (c d : Chan), channelOperand i = some (chanByte c) → d ≠ c → exec i s = .next t →
    t.seq.get d = s.seq.get d ∧ t.mode.get d = s.mode.get d

/-- R129: the transition table of `seq[c]` for a command that succeeded (its history ends with its result). -/
def Obligations.SequencerTransitions : Prop :=
  ∀ (s t : State) (c : Chan) (r : Result), t.history.getLast? = some (.done r) →
    (exec (.enable (chanByte c)) s = .next t → t.seq.get c = .enabled) ∧
    (exec (.disable (chanByte c)) s = .next t → t.seq.get c = .disabled) ∧
    (∀ closed, exec (.setMode (chanByte c) closed) s = .next t → t.seq = s.seq) ∧
    (exec (.zero (chanByte c)) s = .next t → t.seq.get c = .zeroRequested) ∧
    (exec (.pollZero (chanByte c)) s = .next t → ∃ frame raw,
      t.history = s.history ++ [.tx frame, .rx 6 raw, .done r] ∧
      t.seq.get c = if raw.getD 3 0 = 0x02 then .closedLoopReady else s.seq.get c) ∧
    (∀ pos, exec (.position (chanByte c) pos) s = .next t →
      s.seq.get c = .closedLoopReady ∧ t.seq.get c = .closedLoopReady) ∧
    (∀ i, (i = .identify ∨ i = .shutdown ∨ i = .getMode (chanByte c) ∨ i = .getEnable (chanByte c) ∨
      i = .getPosition (chanByte c) ∨ i = .getVolt (chanByte c) ∨ (∃ v, i = .setVolt (chanByte c) v) ∨
      ∃ g n m, i = .rampVolt (chanByte c) g n m) → exec i s = .next t → t.seq = s.seq)

/-- R19: "No rule reads it to decide anything": changing `mode` beforehand changes nothing but `mode` afterwards. -/
def Obligations.ModeDecidesNothing : Prop :=
  ∀ (s t : State) (m : PerChan Mode) (i : Instr), exec i s = .next t →
    ∃ m', exec i { s with mode := m } = .next { t with mode := m' }

/-- R153, R205, R206: an instruction on the command port reports exactly once, unless it waits in a read, and then not
yet. -/
def Obligations.ExactlyOneReportPerCommand : Prop :=
  ∀ (s t : State) (i : Instr), onCommandPort i = true → exec i s = .next t →
    reports t.history = reports s.history + if t.exchange = none then 1 else 0

/-- R8, R45, R153, R179: when the bytes come does not matter. A command that waits in a read and then gets the bytes goes
on exactly as if they had been in the receive stream from the start. That a waiting command ends its step, and that the
bytes come as an event, is the model's (log entries 1 and 5). -/
def Obligations.LateBytesMakeNoDifference : Prop :=
  ∀ (s t : State) (i : Instr) (x : Exchange) (bs : List Byte), onCommandPort i = true → s.rxBuf = [] →
    exec i s = .next t → t.exchange = some x →
    step { t with inbox := .bytes bs :: t.inbox } = exec i { s with rxStream := s.rxStream ++ bs }

/-- R42, R48, R54: on a transport that completes its accesses, what an instruction adds to the transmit stream is
exactly the frames it adds to the history, in that order. -/
def Obligations.WireFollowsTheHistory : Prop :=
  ∀ (s t : State) (i : Instr), NoFailure s → exec i s = .next t →
    ∃ es, t.history = s.history ++ es ∧ t.txStream = s.txStream ++ (txFrames es).flatten

/-- R43, R48: on a transport that completes its accesses, no received byte is lost, doubled or reordered: what a command
read, then what it holds, then what is left, is what there was. -/
def Obligations.ReceivedBytesAreConserved : Prop :=
  ∀ (s t : State) (i : Instr), NoFailure s → onCommandPort i = true → s.rxBuf = [] → exec i s = .next t →
    ∃ es, t.history = s.history ++ es ∧ s.rxStream = rxBytes es ++ t.rxBuf ++ t.rxStream

/-- R37, R67, R73: the block sends only the eleven frames of R67, each with the parameters of its configuration and a
scaled value that is not negative. If the history holds only such frames, it still does after the step, whatever stands
at the ports. -/
def Obligations.OnlyListedFramesAreSent : Prop :=
  ∀ s t : State, onlyBlockFrames s = true → step s = .next t → onlyBlockFrames t = true

/-- R130: only a POLLZERO that read status `0x02` makes a channel ready: either the one at the port or the one that
waited; it is the last thing in the history. -/
def Obligations.ReadyOnlyByATruePoll : Prop :=
  ∀ (s t : State) (c : Chan), step s = .next t → t.seq.get c = .closedLoopReady → s.seq.get c ≠ .closedLoopReady →
    (∃ hist raw, t.history = hist ++ [.rx 6 raw, .done (.bool true)] ∧ raw.getD 3 0 = 0x02) ∧
    (s.exchange = some (.pollZero c) ∨
      ∃ w rest, s.inbox = .instr w :: rest ∧ decode s.config w = .ok (.pollZero (chanByte c)))

/-- R29, R22: the invariant holds at reset: legal configuration, registers loaded from it, buffer empty, no read in
flight. -/
def Obligations.ConsistentAtReset : Prop := Consistent State.reset

/-- R21, R22, R27, R45: every step keeps the invariant, in every state that has it: the configuration is legal and the
registers hold its maxima, an idle block's buffer is empty, and a read in flight could not complete, in an open session,
on behalf of a command whose operands passed their checks. -/
def Obligations.StepKeepsConsistent : Prop :=
  ∀ s t : State, Consistent s → step s = .next t → Consistent t
end

