-- ==== Sys2Proof/Laws/State.lean ====
section
/-! SUPPORT. One lemma per field per update of the state, so that no proof unfolds a record update; the laws of the
per-channel registers. -/

namespace Sys2Proof.Machine

@[simp] theorem PerChan.get_set_same {α : Type} (p : PerChan α) (c : Chan) (v : α) : (p.set c v).get c = v := by
  cases c <;> rfl

theorem PerChan.get_set_other {α : Type} (p : PerChan α) {c d : Chan} (v : α) (h : d ≠ c) :
    (p.set c v).get d = p.get d := by
  cases c <;> cases d <;> first | rfl | exact absurd rfl h

theorem PerChan.get_set {α : Type} (p : PerChan α) (c d : Chan) (v : α) :
    (p.set c v).get d = if d = c then v else p.get d := by
  cases c <;> cases d <;> rfl

@[simp] theorem PerChan.set_set {α : Type} (p : PerChan α) (c : Chan) (v w : α) : (p.set c v).set c w = p.set c w := by
  cases c <;> rfl

@[simp] theorem State.setSeq_seq (s : State) (c : Chan) (v : Seq) : (s.setSeq c v).seq = s.seq.set c v := rfl
@[simp] theorem State.setSeq_mode (s : State) (c : Chan) (v : Seq) : (s.setSeq c v).mode = s.mode := rfl
@[simp] theorem State.setSeq_sessionOpen (s : State) (c : Chan) (v : Seq) : (s.setSeq c v).sessionOpen = s.sessionOpen := rfl
@[simp] theorem State.setSeq_cfgMaxPos (s : State) (c : Chan) (v : Seq) : (s.setSeq c v).cfgMaxPos = s.cfgMaxPos := rfl
@[simp] theorem State.setSeq_cfgMaxVolt (s : State) (c : Chan) (v : Seq) : (s.setSeq c v).cfgMaxVolt = s.cfgMaxVolt := rfl
@[simp] theorem State.setSeq_config (s : State) (c : Chan) (v : Seq) : (s.setSeq c v).config = s.config := rfl
@[simp] theorem State.setSeq_exchange (s : State) (c : Chan) (v : Seq) : (s.setSeq c v).exchange = s.exchange := rfl
@[simp] theorem State.setSeq_rxBuf (s : State) (c : Chan) (v : Seq) : (s.setSeq c v).rxBuf = s.rxBuf := rfl
@[simp] theorem State.setSeq_txStream (s : State) (c : Chan) (v : Seq) : (s.setSeq c v).txStream = s.txStream := rfl
@[simp] theorem State.setSeq_rxStream (s : State) (c : Chan) (v : Seq) : (s.setSeq c v).rxStream = s.rxStream := rfl
@[simp] theorem State.setSeq_response (s : State) (c : Chan) (v : Seq) : (s.setSeq c v).response = s.response := rfl
@[simp] theorem State.setSeq_history (s : State) (c : Chan) (v : Seq) : (s.setSeq c v).history = s.history := rfl
@[simp] theorem State.setSeq_inbox (s : State) (c : Chan) (v : Seq) : (s.setSeq c v).inbox = s.inbox := rfl
@[simp] theorem State.setSeq_verdicts (s : State) (c : Chan) (v : Seq) : (s.setSeq c v).verdicts = s.verdicts := rfl

@[simp] theorem State.setMode_seq (s : State) (c : Chan) (v : Mode) : (s.setMode c v).seq = s.seq := rfl
@[simp] theorem State.setMode_mode (s : State) (c : Chan) (v : Mode) : (s.setMode c v).mode = s.mode.set c v := rfl
@[simp] theorem State.setMode_sessionOpen (s : State) (c : Chan) (v : Mode) : (s.setMode c v).sessionOpen = s.sessionOpen := rfl
@[simp] theorem State.setMode_cfgMaxPos (s : State) (c : Chan) (v : Mode) : (s.setMode c v).cfgMaxPos = s.cfgMaxPos := rfl
@[simp] theorem State.setMode_cfgMaxVolt (s : State) (c : Chan) (v : Mode) : (s.setMode c v).cfgMaxVolt = s.cfgMaxVolt := rfl
@[simp] theorem State.setMode_config (s : State) (c : Chan) (v : Mode) : (s.setMode c v).config = s.config := rfl
@[simp] theorem State.setMode_exchange (s : State) (c : Chan) (v : Mode) : (s.setMode c v).exchange = s.exchange := rfl
@[simp] theorem State.setMode_rxBuf (s : State) (c : Chan) (v : Mode) : (s.setMode c v).rxBuf = s.rxBuf := rfl
@[simp] theorem State.setMode_txStream (s : State) (c : Chan) (v : Mode) : (s.setMode c v).txStream = s.txStream := rfl
@[simp] theorem State.setMode_rxStream (s : State) (c : Chan) (v : Mode) : (s.setMode c v).rxStream = s.rxStream := rfl
@[simp] theorem State.setMode_response (s : State) (c : Chan) (v : Mode) : (s.setMode c v).response = s.response := rfl
@[simp] theorem State.setMode_history (s : State) (c : Chan) (v : Mode) : (s.setMode c v).history = s.history := rfl
@[simp] theorem State.setMode_inbox (s : State) (c : Chan) (v : Mode) : (s.setMode c v).inbox = s.inbox := rfl
@[simp] theorem State.setMode_verdicts (s : State) (c : Chan) (v : Mode) : (s.setMode c v).verdicts = s.verdicts := rfl

@[simp] theorem State.setSession_seq (s : State) (v : Bool) : (s.setSession v).seq = s.seq := rfl
@[simp] theorem State.setSession_mode (s : State) (v : Bool) : (s.setSession v).mode = s.mode := rfl
@[simp] theorem State.setSession_sessionOpen (s : State) (v : Bool) : (s.setSession v).sessionOpen = v := rfl
@[simp] theorem State.setSession_cfgMaxPos (s : State) (v : Bool) : (s.setSession v).cfgMaxPos = s.cfgMaxPos := rfl
@[simp] theorem State.setSession_cfgMaxVolt (s : State) (v : Bool) : (s.setSession v).cfgMaxVolt = s.cfgMaxVolt := rfl
@[simp] theorem State.setSession_config (s : State) (v : Bool) : (s.setSession v).config = s.config := rfl
@[simp] theorem State.setSession_exchange (s : State) (v : Bool) : (s.setSession v).exchange = s.exchange := rfl
@[simp] theorem State.setSession_rxBuf (s : State) (v : Bool) : (s.setSession v).rxBuf = s.rxBuf := rfl
@[simp] theorem State.setSession_txStream (s : State) (v : Bool) : (s.setSession v).txStream = s.txStream := rfl
@[simp] theorem State.setSession_rxStream (s : State) (v : Bool) : (s.setSession v).rxStream = s.rxStream := rfl
@[simp] theorem State.setSession_response (s : State) (v : Bool) : (s.setSession v).response = s.response := rfl
@[simp] theorem State.setSession_history (s : State) (v : Bool) : (s.setSession v).history = s.history := rfl
@[simp] theorem State.setSession_inbox (s : State) (v : Bool) : (s.setSession v).inbox = s.inbox := rfl
@[simp] theorem State.setSession_verdicts (s : State) (v : Bool) : (s.setSession v).verdicts = s.verdicts := rfl

@[simp] theorem State.log_seq (s : State) (e : Event) : (s.log e).seq = s.seq := rfl
@[simp] theorem State.log_mode (s : State) (e : Event) : (s.log e).mode = s.mode := rfl
@[simp] theorem State.log_sessionOpen (s : State) (e : Event) : (s.log e).sessionOpen = s.sessionOpen := rfl
@[simp] theorem State.log_cfgMaxPos (s : State) (e : Event) : (s.log e).cfgMaxPos = s.cfgMaxPos := rfl
@[simp] theorem State.log_cfgMaxVolt (s : State) (e : Event) : (s.log e).cfgMaxVolt = s.cfgMaxVolt := rfl
@[simp] theorem State.log_config (s : State) (e : Event) : (s.log e).config = s.config := rfl
@[simp] theorem State.log_exchange (s : State) (e : Event) : (s.log e).exchange = s.exchange := rfl
@[simp] theorem State.log_rxBuf (s : State) (e : Event) : (s.log e).rxBuf = s.rxBuf := rfl
@[simp] theorem State.log_txStream (s : State) (e : Event) : (s.log e).txStream = s.txStream := rfl
@[simp] theorem State.log_rxStream (s : State) (e : Event) : (s.log e).rxStream = s.rxStream := rfl
@[simp] theorem State.log_response (s : State) (e : Event) : (s.log e).response = s.response := rfl
@[simp] theorem State.log_history (s : State) (e : Event) : (s.log e).history = s.history ++ [e] := rfl
@[simp] theorem State.log_inbox (s : State) (e : Event) : (s.log e).inbox = s.inbox := rfl
@[simp] theorem State.log_verdicts (s : State) (e : Event) : (s.log e).verdicts = s.verdicts := rfl

@[simp] theorem State.emit_seq (s : State) (bs : List Byte) : (s.emit bs).seq = s.seq := rfl
@[simp] theorem State.emit_mode (s : State) (bs : List Byte) : (s.emit bs).mode = s.mode := rfl
@[simp] theorem State.emit_sessionOpen (s : State) (bs : List Byte) : (s.emit bs).sessionOpen = s.sessionOpen := rfl
@[simp] theorem State.emit_cfgMaxPos (s : State) (bs : List Byte) : (s.emit bs).cfgMaxPos = s.cfgMaxPos := rfl
@[simp] theorem State.emit_cfgMaxVolt (s : State) (bs : List Byte) : (s.emit bs).cfgMaxVolt = s.cfgMaxVolt := rfl
@[simp] theorem State.emit_config (s : State) (bs : List Byte) : (s.emit bs).config = s.config := rfl
@[simp] theorem State.emit_exchange (s : State) (bs : List Byte) : (s.emit bs).exchange = s.exchange := rfl
@[simp] theorem State.emit_rxBuf (s : State) (bs : List Byte) : (s.emit bs).rxBuf = s.rxBuf := rfl
@[simp] theorem State.emit_txStream (s : State) (bs : List Byte) : (s.emit bs).txStream = s.txStream ++ bs := rfl
@[simp] theorem State.emit_rxStream (s : State) (bs : List Byte) : (s.emit bs).rxStream = s.rxStream := rfl
@[simp] theorem State.emit_response (s : State) (bs : List Byte) : (s.emit bs).response = s.response := rfl
@[simp] theorem State.emit_history (s : State) (bs : List Byte) : (s.emit bs).history = s.history := rfl
@[simp] theorem State.emit_inbox (s : State) (bs : List Byte) : (s.emit bs).inbox = s.inbox := rfl
@[simp] theorem State.emit_verdicts (s : State) (bs : List Byte) : (s.emit bs).verdicts = s.verdicts := rfl

@[simp] theorem State.popVerdict_seq (s : State) : (s.popVerdict).seq = s.seq := rfl
@[simp] theorem State.popVerdict_mode (s : State) : (s.popVerdict).mode = s.mode := rfl
@[simp] theorem State.popVerdict_sessionOpen (s : State) : (s.popVerdict).sessionOpen = s.sessionOpen := rfl
@[simp] theorem State.popVerdict_cfgMaxPos (s : State) : (s.popVerdict).cfgMaxPos = s.cfgMaxPos := rfl
@[simp] theorem State.popVerdict_cfgMaxVolt (s : State) : (s.popVerdict).cfgMaxVolt = s.cfgMaxVolt := rfl
@[simp] theorem State.popVerdict_config (s : State) : (s.popVerdict).config = s.config := rfl
@[simp] theorem State.popVerdict_exchange (s : State) : (s.popVerdict).exchange = s.exchange := rfl
@[simp] theorem State.popVerdict_rxBuf (s : State) : (s.popVerdict).rxBuf = s.rxBuf := rfl
@[simp] theorem State.popVerdict_txStream (s : State) : (s.popVerdict).txStream = s.txStream := rfl
@[simp] theorem State.popVerdict_rxStream (s : State) : (s.popVerdict).rxStream = s.rxStream := rfl
@[simp] theorem State.popVerdict_response (s : State) : (s.popVerdict).response = s.response := rfl
@[simp] theorem State.popVerdict_history (s : State) : (s.popVerdict).history = s.history := rfl
@[simp] theorem State.popVerdict_inbox (s : State) : (s.popVerdict).inbox = s.inbox := rfl
@[simp] theorem State.popVerdict_verdicts (s : State) : (s.popVerdict).verdicts = s.verdicts.tail := rfl

@[simp] theorem State.setRx_seq (s : State) (x : Option Exchange) (buf stream : List Byte) : (s.setRx x buf stream).seq = s.seq := rfl
@[simp] theorem State.setRx_mode (s : State) (x : Option Exchange) (buf stream : List Byte) : (s.setRx x buf stream).mode = s.mode := rfl
@[simp] theorem State.setRx_sessionOpen (s : State) (x : Option Exchange) (buf stream : List Byte) : (s.setRx x buf stream).sessionOpen = s.sessionOpen := rfl
@[simp] theorem State.setRx_cfgMaxPos (s : State) (x : Option Exchange) (buf stream : List Byte) : (s.setRx x buf stream).cfgMaxPos = s.cfgMaxPos := rfl
@[simp] theorem State.setRx_cfgMaxVolt (s : State) (x : Option Exchange) (buf stream : List Byte) : (s.setRx x buf stream).cfgMaxVolt = s.cfgMaxVolt := rfl
@[simp] theorem State.setRx_config (s : State) (x : Option Exchange) (buf stream : List Byte) : (s.setRx x buf stream).config = s.config := rfl
@[simp] theorem State.setRx_exchange (s : State) (x : Option Exchange) (buf stream : List Byte) : (s.setRx x buf stream).exchange = x := rfl
@[simp] theorem State.setRx_rxBuf (s : State) (x : Option Exchange) (buf stream : List Byte) : (s.setRx x buf stream).rxBuf = buf := rfl
@[simp] theorem State.setRx_txStream (s : State) (x : Option Exchange) (buf stream : List Byte) : (s.setRx x buf stream).txStream = s.txStream := rfl
@[simp] theorem State.setRx_rxStream (s : State) (x : Option Exchange) (buf stream : List Byte) : (s.setRx x buf stream).rxStream = stream := rfl
@[simp] theorem State.setRx_response (s : State) (x : Option Exchange) (buf stream : List Byte) : (s.setRx x buf stream).response = s.response := rfl
@[simp] theorem State.setRx_history (s : State) (x : Option Exchange) (buf stream : List Byte) : (s.setRx x buf stream).history = s.history := rfl
@[simp] theorem State.setRx_inbox (s : State) (x : Option Exchange) (buf stream : List Byte) : (s.setRx x buf stream).inbox = s.inbox := rfl
@[simp] theorem State.setRx_verdicts (s : State) (x : Option Exchange) (buf stream : List Byte) : (s.setRx x buf stream).verdicts = s.verdicts := rfl

@[simp] theorem State.setResponse_seq (s : State) (r : Response) : (s.setResponse r).seq = s.seq := rfl
@[simp] theorem State.setResponse_mode (s : State) (r : Response) : (s.setResponse r).mode = s.mode := rfl
@[simp] theorem State.setResponse_sessionOpen (s : State) (r : Response) : (s.setResponse r).sessionOpen = s.sessionOpen := rfl
@[simp] theorem State.setResponse_cfgMaxPos (s : State) (r : Response) : (s.setResponse r).cfgMaxPos = s.cfgMaxPos := rfl
@[simp] theorem State.setResponse_cfgMaxVolt (s : State) (r : Response) : (s.setResponse r).cfgMaxVolt = s.cfgMaxVolt := rfl
@[simp] theorem State.setResponse_config (s : State) (r : Response) : (s.setResponse r).config = s.config := rfl
@[simp] theorem State.setResponse_exchange (s : State) (r : Response) : (s.setResponse r).exchange = s.exchange := rfl
@[simp] theorem State.setResponse_rxBuf (s : State) (r : Response) : (s.setResponse r).rxBuf = s.rxBuf := rfl
@[simp] theorem State.setResponse_txStream (s : State) (r : Response) : (s.setResponse r).txStream = s.txStream := rfl
@[simp] theorem State.setResponse_rxStream (s : State) (r : Response) : (s.setResponse r).rxStream = s.rxStream := rfl
@[simp] theorem State.setResponse_response (s : State) (r : Response) : (s.setResponse r).response = some r := rfl
@[simp] theorem State.setResponse_history (s : State) (r : Response) : (s.setResponse r).history = s.history := rfl
@[simp] theorem State.setResponse_inbox (s : State) (r : Response) : (s.setResponse r).inbox = s.inbox := rfl
@[simp] theorem State.setResponse_verdicts (s : State) (r : Response) : (s.setResponse r).verdicts = s.verdicts := rfl

@[simp] theorem State.setInbox_seq (s : State) (l : List PortEvent) : (s.setInbox l).seq = s.seq := rfl
@[simp] theorem State.setInbox_mode (s : State) (l : List PortEvent) : (s.setInbox l).mode = s.mode := rfl
@[simp] theorem State.setInbox_sessionOpen (s : State) (l : List PortEvent) : (s.setInbox l).sessionOpen = s.sessionOpen := rfl
@[simp] theorem State.setInbox_cfgMaxPos (s : State) (l : List PortEvent) : (s.setInbox l).cfgMaxPos = s.cfgMaxPos := rfl
@[simp] theorem State.setInbox_cfgMaxVolt (s : State) (l : List PortEvent) : (s.setInbox l).cfgMaxVolt = s.cfgMaxVolt := rfl
@[simp] theorem State.setInbox_config (s : State) (l : List PortEvent) : (s.setInbox l).config = s.config := rfl
@[simp] theorem State.setInbox_exchange (s : State) (l : List PortEvent) : (s.setInbox l).exchange = s.exchange := rfl
@[simp] theorem State.setInbox_rxBuf (s : State) (l : List PortEvent) : (s.setInbox l).rxBuf = s.rxBuf := rfl
@[simp] theorem State.setInbox_txStream (s : State) (l : List PortEvent) : (s.setInbox l).txStream = s.txStream := rfl
@[simp] theorem State.setInbox_rxStream (s : State) (l : List PortEvent) : (s.setInbox l).rxStream = s.rxStream := rfl
@[simp] theorem State.setInbox_response (s : State) (l : List PortEvent) : (s.setInbox l).response = s.response := rfl
@[simp] theorem State.setInbox_history (s : State) (l : List PortEvent) : (s.setInbox l).history = s.history := rfl
@[simp] theorem State.setInbox_inbox (s : State) (l : List PortEvent) : (s.setInbox l).inbox = l := rfl
@[simp] theorem State.setInbox_verdicts (s : State) (l : List PortEvent) : (s.setInbox l).verdicts = s.verdicts := rfl

@[simp] theorem waitMs_seq (s : State) (ms : Word32) : (waitMs ms s).seq = s.seq := rfl
@[simp] theorem waitMs_mode (s : State) (ms : Word32) : (waitMs ms s).mode = s.mode := rfl
@[simp] theorem waitMs_sessionOpen (s : State) (ms : Word32) : (waitMs ms s).sessionOpen = s.sessionOpen := rfl
@[simp] theorem waitMs_cfgMaxPos (s : State) (ms : Word32) : (waitMs ms s).cfgMaxPos = s.cfgMaxPos := rfl
@[simp] theorem waitMs_cfgMaxVolt (s : State) (ms : Word32) : (waitMs ms s).cfgMaxVolt = s.cfgMaxVolt := rfl
@[simp] theorem waitMs_config (s : State) (ms : Word32) : (waitMs ms s).config = s.config := rfl
@[simp] theorem waitMs_exchange (s : State) (ms : Word32) : (waitMs ms s).exchange = s.exchange := rfl
@[simp] theorem waitMs_rxBuf (s : State) (ms : Word32) : (waitMs ms s).rxBuf = s.rxBuf := rfl
@[simp] theorem waitMs_txStream (s : State) (ms : Word32) : (waitMs ms s).txStream = s.txStream := rfl
@[simp] theorem waitMs_rxStream (s : State) (ms : Word32) : (waitMs ms s).rxStream = s.rxStream := rfl
@[simp] theorem waitMs_response (s : State) (ms : Word32) : (waitMs ms s).response = s.response := rfl
@[simp] theorem waitMs_history (s : State) (ms : Word32) : (waitMs ms s).history = s.history ++ [.wait ms] := rfl
@[simp] theorem waitMs_inbox (s : State) (ms : Word32) : (waitMs ms s).inbox = s.inbox := rfl
@[simp] theorem waitMs_verdicts (s : State) (ms : Word32) : (waitMs ms s).verdicts = s.verdicts := rfl

@[simp] theorem report_seq (s : State) (r : Except ErrorKind Result) : (report r s).seq = s.seq := rfl
@[simp] theorem report_mode (s : State) (r : Except ErrorKind Result) : (report r s).mode = s.mode := rfl
@[simp] theorem report_sessionOpen (s : State) (r : Except ErrorKind Result) : (report r s).sessionOpen = s.sessionOpen := rfl
@[simp] theorem report_cfgMaxPos (s : State) (r : Except ErrorKind Result) : (report r s).cfgMaxPos = s.cfgMaxPos := rfl
@[simp] theorem report_cfgMaxVolt (s : State) (r : Except ErrorKind Result) : (report r s).cfgMaxVolt = s.cfgMaxVolt := rfl
@[simp] theorem report_config (s : State) (r : Except ErrorKind Result) : (report r s).config = s.config := rfl
@[simp] theorem report_exchange (s : State) (r : Except ErrorKind Result) : (report r s).exchange = s.exchange := rfl
@[simp] theorem report_rxBuf (s : State) (r : Except ErrorKind Result) : (report r s).rxBuf = s.rxBuf := rfl
@[simp] theorem report_txStream (s : State) (r : Except ErrorKind Result) : (report r s).txStream = s.txStream := rfl
@[simp] theorem report_rxStream (s : State) (r : Except ErrorKind Result) : (report r s).rxStream = s.rxStream := rfl
@[simp] theorem report_response (s : State) (r : Except ErrorKind Result) : (report r s).response = some (responseOf s.config s.history.length r) := rfl
@[simp] theorem report_history (s : State) (r : Except ErrorKind Result) : (report r s).history = s.history ++ [reportEvent r] := rfl
@[simp] theorem report_inbox (s : State) (r : Except ErrorKind Result) : (report r s).inbox = s.inbox := rfl
@[simp] theorem report_verdicts (s : State) (r : Except ErrorKind Result) : (report r s).verdicts = s.verdicts := rfl

@[simp] theorem resetBlock_seq (s : State) (cfg : Config) : (resetBlock cfg s).seq = ⟨.disabled, .disabled, .disabled⟩ := rfl
@[simp] theorem resetBlock_mode (s : State) (cfg : Config) : (resetBlock cfg s).mode = ⟨.openLoop, .openLoop, .openLoop⟩ := rfl
@[simp] theorem resetBlock_sessionOpen (s : State) (cfg : Config) : (resetBlock cfg s).sessionOpen = true := rfl
@[simp] theorem resetBlock_cfgMaxPos (s : State) (cfg : Config) : (resetBlock cfg s).cfgMaxPos = cfg.maxPos := rfl
@[simp] theorem resetBlock_cfgMaxVolt (s : State) (cfg : Config) : (resetBlock cfg s).cfgMaxVolt = cfg.maxVolt := rfl
@[simp] theorem resetBlock_config (s : State) (cfg : Config) : (resetBlock cfg s).config = cfg := rfl
@[simp] theorem resetBlock_exchange (s : State) (cfg : Config) : (resetBlock cfg s).exchange = none := rfl
@[simp] theorem resetBlock_rxBuf (s : State) (cfg : Config) : (resetBlock cfg s).rxBuf = [] := rfl
@[simp] theorem resetBlock_txStream (s : State) (cfg : Config) : (resetBlock cfg s).txStream = [] := rfl
@[simp] theorem resetBlock_rxStream (s : State) (cfg : Config) : (resetBlock cfg s).rxStream = s.rxStream := rfl
@[simp] theorem resetBlock_response (s : State) (cfg : Config) : (resetBlock cfg s).response = none := rfl
@[simp] theorem resetBlock_history (s : State) (cfg : Config) : (resetBlock cfg s).history = [] := rfl
@[simp] theorem resetBlock_inbox (s : State) (cfg : Config) : (resetBlock cfg s).inbox = s.inbox := rfl
@[simp] theorem resetBlock_verdicts (s : State) (cfg : Config) : (resetBlock cfg s).verdicts = verdictsToCome s := rfl
@[simp] theorem verdictsToCome_idle {s : State} (h : s.exchange = none) : verdictsToCome s = s.verdicts := by
  simp [verdictsToCome, h]
@[simp] theorem verdictsToCome_waiting {s : State} {x : Exchange} (h : s.exchange = some x) :
    verdictsToCome s = s.verdicts.tail := by
  simp [verdictsToCome, h]

end Sys2Proof.Machine
end

