-- ==== Sys2Proof/Laws/Ops.lean ====
section
/-! SUPPORT. One lemma per shared operation that says what it can do: the transport primitives, acceptance, the report,
the frames of a channel. -/

namespace Sys2Proof.Machine

open Safety

/-! ### A transport without failures -/

theorem headD_completes {s : State} (h : NoFailure s) : s.verdicts.headD .completes = .completes := by
  unfold NoFailure at h
  cases hv : s.verdicts with
  | nil => rfl
  | cons v vs => exact h v (by simp [hv])

theorem noFailure_drop {s t : State} (n : Nat) (h : NoFailure s) (e : t.verdicts = s.verdicts.drop n) : NoFailure t := by
  intro v hv
  rw [e] at hv
  exact h v (List.mem_of_mem_drop hv)

/-! ### Histories that have been played -/

theorem txFrames_append (a b : List Event) : txFrames (a ++ b) = txFrames a ++ txFrames b := by
  induction a with
  | nil => rfl
  | cons e a ih => cases e <;> simp [txFrames, ih]

theorem rxBytes_append (a b : List Event) : rxBytes (a ++ b) = rxBytes a ++ rxBytes b := by
  induction a with
  | nil => rfl
  | cons e a ih => cases e <;> simp [rxBytes, ih]

theorem accesses_append (a b : List Event) : accesses (a ++ b) = accesses a + accesses b := by
  induction a with
  | nil => simp [accesses]
  | cons e a ih => cases e <;> simp [accesses, ih] <;> omega

theorem reports_append (a b : List Event) : reports (a ++ b) = reports a + reports b := by
  induction a with
  | nil => simp [reports]
  | cons e a ih => cases e <;> simp [reports, ih] <;> omega

@[simp] theorem played_nil (s : State) : played [] s = s := by
  simp [played, txFrames, rxBytes, accesses]

theorem played_played (a b : List Event) (s : State) : played b (played a s) = played (a ++ b) s := by
  simp [played, txFrames_append, rxBytes_append, accesses_append, List.drop_drop]

theorem noFailure_played {s : State} (h : NoFailure s) (es : List Event) : NoFailure (played es s) :=
  noFailure_drop _ h rfl

theorem waitMs_played (ms : Word32) (s : State) : waitMs ms s = played [.wait ms] s := by
  simp [waitMs, State.log, played, txFrames, rxBytes, accesses]

/-! ### Pseudocode -/

@[simp] theorem Run.andThen_ret {α β : Type} (s : State) (a : α) (f : State → α → Run β) :
    (Run.ret s a).andThen f = f s a := rfl
@[simp] theorem Run.andThen_raised {α β : Type} (s : State) (e : ErrorKind) (f : State → α → Run β) :
    (Run.raised s e : Run α).andThen f = .raised s e := rfl
@[simp] theorem Run.andThen_blocked {α β : Type} (s : State) (f : State → α → Run β) :
    (Run.blocked s : Run α).andThen f = .blocked s := rfl
@[simp] theorem liftExcept_ok {α : Type} (s : State) (a : α) : liftExcept s (.ok a) = .ret s a := rfl
@[simp] theorem liftExcept_error {α : Type} (s : State) (e : ErrorKind) :
    (liftExcept s (.error e) : Run α) = .raised s e := rfl
@[simp] theorem noResult_eq (s : State) (u : Unit) : noResult s u = .ret s .nothing := rfl

theorem Run.andThen_assoc {α β γ : Type} (r : Run α) (f : State → α → Run β) (g : State → β → Run γ) :
    (r.andThen f).andThen g = r.andThen fun s a => (f s a).andThen g := by
  cases r <;> rfl

/-! ### Primitives -/

/-- Everything `TxWrite` can do (R44, R46). -/
theorem txWrite_cases (frame : List Byte) (s : State) :
    (s.verdicts.headD .completes = .completes ∧
      txWrite frame s = .ret ((s.popVerdict.emit frame).log (.tx frame)) ()) ∨
    (∃ moved, s.verdicts.headD .completes = .fails moved ∧
      txWrite frame s = .raised (s.popVerdict.emit (frame.take moved)) .transportFailure) := by
  unfold txWrite
  cases h : s.verdicts.headD .completes with
  | completes => exact .inl ⟨rfl, rfl⟩
  | fails moved => exact .inr ⟨moved, rfl, rfl⟩

theorem txWrite_completes {s : State} (h : s.verdicts.headD .completes = .completes) (frame : List Byte) :
    txWrite frame s = .ret (played [.tx frame] s) () := by
  obtain ⟨-, e⟩ | ⟨moved, e, -⟩ := txWrite_cases frame s
  · rw [e]; simp [played, txFrames, rxBytes, accesses, State.emit, State.log, State.popVerdict]
  · rw [h] at e; cases e

/-- Everything `RxRead` can do (R45, R46): fail, complete, or wait with what has come. -/
theorem rxRead_cases (x : Exchange) (s : State) :
    (∃ moved, s.verdicts.headD .completes = .fails moved ∧
      rxRead x s = .raised (s.popVerdict.setRx none [] (s.rxStream.drop moved)) .transportFailure) ∨
    (s.verdicts.headD .completes = .completes ∧ replyLen x ≤ (s.rxBuf ++ s.rxStream).length ∧
      rxRead x s = .ret ((s.popVerdict.setRx none [] ((s.rxBuf ++ s.rxStream).drop (replyLen x))).log
        (.rx (replyLen x) ((s.rxBuf ++ s.rxStream).take (replyLen x)))) ((s.rxBuf ++ s.rxStream).take (replyLen x))) ∨
    (s.verdicts.headD .completes = .completes ∧ (s.rxBuf ++ s.rxStream).length < replyLen x ∧
      rxRead x s = .blocked (s.setRx (some x) (s.rxBuf ++ s.rxStream) [])) := by
  unfold rxRead
  cases h : s.verdicts.headD .completes with
  | fails moved => exact .inl ⟨moved, rfl, rfl⟩
  | completes =>
    by_cases hl : replyLen x ≤ (s.rxBuf ++ s.rxStream).length
    · exact .inr (.inl ⟨rfl, hl, by simp only [if_pos hl]⟩)
    · exact .inr (.inr ⟨rfl, Nat.lt_of_not_le hl, by simp only [if_neg hl]⟩)

theorem rxRead_completes {x : Exchange} {s : State} (h : s.verdicts.headD .completes = .completes) (hx : s.exchange = none)
    (hb : s.rxBuf = []) (hl : replyLen x ≤ s.rxStream.length) :
    rxRead x s = .ret (played [.rx (replyLen x) (s.rxStream.take (replyLen x))] s) (s.rxStream.take (replyLen x)) := by
  obtain ⟨moved, e, -⟩ | ⟨-, -, e⟩ | ⟨-, e, -⟩ := rxRead_cases x s
  · rw [h] at e; cases e
  · rw [e]
    simp [hb, hx, played, txFrames, rxBytes, accesses, State.setRx, State.log, State.popVerdict, Nat.min_eq_left hl]
  · simp [hb] at e; omega

theorem rxRead_waits {x : Exchange} {s : State} (h : s.verdicts.headD .completes = .completes)
    (hl : (s.rxBuf ++ s.rxStream).length < replyLen x) :
    rxRead x s = .blocked (s.setRx (some x) (s.rxBuf ++ s.rxStream) []) := by
  obtain ⟨moved, e, -⟩ | ⟨-, e, -⟩ | ⟨-, -, e⟩ := rxRead_cases x s
  · rw [h] at e; cases e
  · omega
  · exact e

/-- Everything `Close` can do (R152, R160). -/
theorem closeTransport_cases (s : State) :
    (s.verdicts.headD .completes = .completes ∧ closeTransport s = .ret (s.popVerdict.log .close) ()) ∨
    (∃ moved, s.verdicts.headD .completes = .fails moved ∧ closeTransport s = .raised s.popVerdict .transportFailure) := by
  unfold closeTransport
  cases h : s.verdicts.headD .completes with
  | completes => exact .inl ⟨rfl, rfl⟩
  | fails moved => exact .inr ⟨moved, rfl, rfl⟩

/-! ### Acceptance and report -/

theorem accept_open {s : State} (go : State → Out) (hx : s.exchange = none) (ho : s.sessionOpen = true) :
    accept s go = go s := by
  simp [accept, hx, ho]

/-- What acceptance lets through (R120 stage 1, R180). -/
theorem accept_next {s t : State} {go : State → Out} (h : accept s go = .next t) :
    s.exchange = none ∧ s.sessionOpen = true ∧ go s = .next t := by
  unfold accept at h
  split at h
  · cases h
  · split at h
    · rename_i hx ho
      exact ⟨by simpa using hx, ho, h⟩
    · cases h

theorem runCommand_accepts {s : State} (h : Accepts s) (body : State → Run Result) :
    runCommand s body = conclude (body s) := by
  obtain ⟨hx, ho, hp, hv⟩ := h
  rw [runCommand, accept_open _ hx ho, if_neg (not_or.2 ⟨hp, hv⟩)]

/-- A command that answers a next state ran its pseudocode. -/
theorem runCommand_next {s t : State} {body : State → Run Result} (h : runCommand s body = .next t) :
    Accepts s ∧ conclude (body s) = .next t := by
  obtain ⟨hx, ho, h⟩ := accept_next h
  split at h
  · cases h
  · rename_i hm
    simp only [not_or] at hm
    exact ⟨⟨hx, ho, hm.1, hm.2⟩, h⟩

theorem answerUnit_open {s : State} (r : Except ErrorKind Result) (hx : s.exchange = none) (ho : s.sessionOpen = true) :
    answerUnit s r = .next (report r s) := accept_open _ hx ho

theorem answerUnit_next {s t : State} {r : Except ErrorKind Result} (h : answerUnit s r = .next t) :
    s.exchange = none ∧ s.sessionOpen = true ∧ t = report r s := by
  obtain ⟨hx, ho, h⟩ := accept_next h
  cases h
  exact ⟨hx, ho, rfl⟩

/-- How a command's pseudocode ends (R161, R179): a report of its result, a report of its error, or no report. -/
theorem conclude_next {r : Run Result} {t : State} (h : conclude r = .next t) :
    (∃ s a, r = .ret s a ∧ t = report (.ok a) s) ∨ (∃ s e, r = .raised s e ∧ t = report (.error e) s) ∨ r = .blocked t := by
  cases r with
  | ret s a => cases h; exact .inl ⟨s, a, rfl, rfl⟩
  | raised s e => cases h; exact .inr (.inl ⟨s, e, rfl, rfl⟩)
  | blocked s => cases h; exact .inr (.inr rfl)

/-! ### Channels and their frames -/

@[simp] theorem chanOf_chanByte (c : Chan) : chanOf ((chanByte c).toNat : Int) = some c := by
  cases c <;> rfl

@[simp] theorem withChannel_chanByte (c : Chan) (s : State) (body : Chan → State → Run Result) :
    withChannel (chanByte c) s body = body c s := by
  simp [withChannel]

theorem withChannel_invalid {ch : Byte} (h : chanOf (ch.toNat : Int) = none) (s : State)
    (body : Chan → State → Run Result) : withChannel ch s body = .raised s .invalidChannel := by
  simp [withChannel, h]

theorem int2b1_fits {s : Int} (h : fitsByte s = true) : int2b1 s = .ok (tc8 s) := by
  simp only [fitsByte, Bool.and_eq_true, decide_eq_true_eq] at h
  rw [int2b1, if_neg (by omega)]

theorem int2b2_fits {s : Int} (h0 : -32768 ≤ s) (h1 : s ≤ 32767) : int2b2 s = .ok (le16 (tc16 s)) := by
  rw [int2b2, if_neg (by simp only [SCALED_MIN, SCALED_MAX]; omega)]

/-- The parts of a legal configuration. -/
theorem configLegal_iff (cfg : Config) : configLegal cfg = true ↔
    cfg.maxPos ≠ 0 ∧ cfg.maxVolt ≠ 0 ∧ cfg.chanIdent1 = 1 ∧ fitsByte cfg.chanIdent2 = true ∧
      fitsByte cfg.chanIdent3 = true ∧ fitsByte cfg.enCode = true ∧ fitsByte cfg.disCode = true ∧
      fitsByte cfg.modeCodeOpen = true ∧ fitsByte cfg.modeCodeClosed = true ∧ fitsByte cfg.queryP2 = true ∧
      cfg.shutSteps ≠ 0 ∧ cfg.maxPos < 2 ^ cfg.posW ∧ cfg.maxVolt < 2 ^ cfg.valW := by
  simp [configLegal, and_assoc]

theorem chanIdent_fits {cfg : Config} (h : configLegal cfg = true) (c : Chan) : fitsByte (chanIdent cfg c) = true := by
  obtain ⟨-, -, h1, h2, h3, -⟩ := (configLegal_iff cfg).1 h
  cases c
  · simp [chanIdent, h1]; decide
  · exact h2
  · exact h3

/-- The bytes of a channel's short frame (R56, R68 to R70). -/
theorem shortFrame_legal {cfg : Config} (h : configLegal cfg = true) (opcode : Word16) (c : Chan) {p2 : Int}
    (hp : fitsByte p2 = true) :
    shortFrame cfg opcode c p2 = .ok [lo opcode, hi opcode, tc8 (chanIdent cfg c), tc8 p2, bay c, hostAddr] := by
  simp [shortFrame, int2b1_fits (chanIdent_fits h c), int2b1_fits hp, encodeShort]

/-- The bytes of a channel's long frame (R57, R66). -/
theorem longFrame_legal {cfg : Config} (h : configLegal cfg = true) (opcode : Word16) (c : Chan) {scaled : Int}
    (h0 : 0 ≤ scaled) (h1 : scaled ≤ 32767) :
    longFrame cfg opcode c scaled = .ok [lo opcode, hi opcode, 0x04, 0x00, bay c ||| dataBit, hostAddr,
      tc8 (chanIdent cfg c), 0x00, lo (tc16 scaled), hi (tc16 scaled)] := by
  simp only [longFrame, int2b1_fits (chanIdent_fits h c), int2b2_fits (by omega : -32768 ≤ scaled) h1, le16, encodeLong,
    List.cons_append, List.nil_append, List.length_cons, List.length_nil]
  rfl

theorem sendShort_completes {s : State} (hl : configLegal s.config = true) (hv : s.verdicts.headD .completes = .completes)
    (opcode : Word16) (c : Chan) {p2 : Int} (hp : fitsByte p2 = true) :
    sendShort opcode c p2 s =
      .ret (played [.tx [lo opcode, hi opcode, tc8 (chanIdent s.config c), tc8 p2, bay c, hostAddr]] s) () := by
  simp [sendShort, shortFrame_legal hl opcode c hp, txWrite_completes hv]

theorem sendLong_completes {s : State} (hl : configLegal s.config = true) (hv : s.verdicts.headD .completes = .completes)
    (opcode : Word16) (c : Chan) {scaled : Int} (h0 : 0 ≤ scaled) (h1 : scaled ≤ 32767) :
    sendLong opcode c scaled s =
      .ret (played [.tx [lo opcode, hi opcode, 0x04, 0x00, bay c ||| dataBit, hostAddr,
        tc8 (chanIdent s.config c), 0x00, lo (tc16 scaled), hi (tc16 scaled)]] s) () := by
  simp [sendLong, longFrame_legal hl opcode c h0 h1, txWrite_completes hv]

end Sys2Proof.Machine
end

