-- ==== Sys2Proof/Laws/Codec.lean ====
section
/-! SUPPORT. Bytes and fields: a 16-bit field and its two bytes (spec 20_memory R38), the destination byte (30_encoding
R56, R57), the signed one-byte code (R64), the signed ports (R76), the eleven frames byte by byte (R67). -/

namespace Sys2Proof.Machine

open Safety

theorem lo_toNat (w : Word16) : (lo w).toNat = w.toNat % 256 := by
  simp [lo]

theorem hi_toNat (w : Word16) : (hi w).toNat = w.toNat / 256 := by
  have := w.isLt
  simp only [hi, BitVec.toNat_setWidth, BitVec.toNat_ushiftRight, Nat.shiftRight_eq_div_pow]
  omega

theorem word16_toNat (b0 b1 : Byte) : (word16 b0 b1).toNat = b0.toNat + 256 * b1.toNat := by
  have := b0.isLt
  rw [word16, BitVec.toNat_append, ← Nat.shiftLeft_add_eq_or_of_lt this, Nat.shiftLeft_eq]
  omega

@[simp] theorem word16_lo_hi (w : Word16) : word16 (lo w) (hi w) = w := by
  apply BitVec.eq_of_toNat_eq
  rw [word16_toNat, lo_toNat, hi_toNat]
  omega

@[simp] theorem lo_word16 (b0 b1 : Byte) : lo (word16 b0 b1) = b0 := by
  have := b0.isLt
  apply BitVec.eq_of_toNat_eq
  rw [lo_toNat, word16_toNat]
  omega

@[simp] theorem hi_word16 (b0 b1 : Byte) : hi (word16 b0 b1) = b1 := by
  have := b0.isLt
  apply BitVec.eq_of_toNat_eq
  rw [hi_toNat, word16_toNat]
  omega

@[simp] theorem destField_shortDest (d : BitVec 7) : destField (shortDest d) = d := by revert d; decide
@[simp] theorem destField_longDest (d : BitVec 7) : destField (longDest d) = d := by revert d; decide
@[simp] theorem isLongDest_shortDest (d : BitVec 7) : isLongDest (shortDest d) = false := by revert d; decide
@[simp] theorem isLongDest_longDest (d : BitVec 7) : isLongDest (longDest d) = true := by revert d; decide
theorem shortDest_destField {d : Byte} (h : isLongDest d = false) : shortDest (destField d) = d := by revert d; decide
theorem longDest_destField {d : Byte} (h : isLongDest d = true) : longDest (destField d) = d := by revert d; decide

/-- Two codes that fit the signed byte are told apart by it. -/
theorem tc8_injective {a b : Int} (ha : fitsByte a = true) (hb : fitsByte b = true) (h : tc8 a = tc8 b) : a = b := by
  simp only [fitsByte, Bool.and_eq_true, decide_eq_true_eq] at ha hb
  have := congrArg BitVec.toInt h
  simp [tc8, BitVec.toInt_ofInt, Int.bmod] at this
  omega

/-- B2I16 is the two's complement reading of the 16-bit field (R91). -/
theorem b2i16_eq_toInt (b0 b1 : Byte) : b2i16 b0 b1 = (word16 b0 b1).toInt := by
  have := b0.isLt
  have := b1.isLt
  have hu : b2u16 b0 b1 = ((b0.toNat + 256 * b1.toNat : Nat) : Int) := by simp [b2u16]
  rw [BitVec.toInt_eq_toNat_cond, word16_toNat, b2i16, hu]
  split <;> split <;> omega

/-! ### Signed ports (R10, R76) -/

theorem fitsSigned_iff (w : Nat) (v : Int) :
    fitsSigned w v = true ↔ -(2 ^ w : Int) ≤ 2 * v ∧ 2 * v < (2 ^ w : Int) := by
  simp only [fitsSigned, Bool.and_eq_true, decide_eq_true_eq]

/-- A port carries an integer that fits it (R76). -/
theorem portSigned_of_fits {w : Nat} {v : Int} (h : fitsSigned w v = true) : portSigned w v = v := by
  rw [fitsSigned_iff] at h
  have hp : (0 : Int) < 2 ^ w := by positivity
  rw [portSigned, Int.bmod_def]
  push_cast
  by_cases h0 : 0 ≤ v
  · rw [Int.emod_eq_of_lt h0 (by omega)]
    split <;> omega
  · have hm : v % (2 ^ w : Int) = v + 2 ^ w := by
      have := Int.add_mul_emod_self_left v (2 ^ w) 1
      rw [mul_one] at this
      rw [← this, Int.emod_eq_of_lt (by omega) (by omega)]
    rw [hm]
    split <;> omega

/-- What a port carries fits it (R76). -/
theorem fitsSigned_portSigned (w : Nat) (v : Int) : fitsSigned w (portSigned w v) = true := by
  have hp : (0 : Int) < 2 ^ w := by positivity
  have h1 := Int.emod_nonneg v hp.ne'
  have h2 := Int.emod_lt_of_pos v hp
  rw [fitsSigned_iff, portSigned, Int.bmod_def]
  push_cast
  split <;> omega

theorem portInt_of_fits {cfg : Config} {v : Int} (h : fitsSigned cfg.valW v = true) (n : Nat) (r : Result) :
    portInt cfg n r v = v := by
  simp [portInt, h]

theorem fitsSigned_portInt (cfg : Config) (n : Nat) (r : Result) (v : Int) :
    fitsSigned cfg.valW (portInt cfg n r v) = true := by
  unfold portInt
  split
  · assumption
  · exact fitsSigned_portSigned _ _

/-- `rsp_val` always fits its `VAL_W` bits (R76). -/
theorem fitsSigned_rspVal (cfg : Config) (n : Nat) (r : Result) : fitsSigned cfg.valW (rspVal cfg n r) = true := by
  cases r <;> simp only [rspVal, fitsSigned_portInt, fitsSigned_portSigned]
  simp [fitsSigned]

/-! ### The eleven frames (R67, R73) -/

theorem int2b1_ok {s : Int} {b : Byte} (h : int2b1 s = .ok b) : b = tc8 s := by
  unfold int2b1 at h
  split at h <;> cases h
  rfl

/-- The only bytes a channel's short frame can be, under any configuration. -/
theorem shortFrame_ok {cfg : Config} {op : Word16} {c : Chan} {p2 : Int} {bs : List Byte}
    (h : shortFrame cfg op c p2 = .ok bs) :
    bs = [lo op, hi op, tc8 (chanIdent cfg c), tc8 p2, bay c, hostAddr] := by
  unfold shortFrame at h
  split at h
  · cases h
  · rename_i ci hci
    split at h
    · cases h
    · rename_i p hp
      cases h
      rw [int2b1_ok hci, int2b1_ok hp]; rfl

/-- The only bytes a channel's long frame can be, under any configuration. -/
theorem longFrame_ok {cfg : Config} {op : Word16} {c : Chan} {z : Int} {bs : List Byte}
    (h : longFrame cfg op c z = .ok bs) :
    bs = [lo op, hi op, 0x04, 0x00, bay c ||| dataBit, hostAddr, tc8 (chanIdent cfg c), 0x00, lo (tc16 z),
      hi (tc16 z)] := by
  unfold longFrame at h
  split at h
  · cases h
  · rename_i ci hci
    unfold int2b2 at h
    split at h
    · rename_i heq
      split at heq <;> cases heq
      cases h
    · rename_i v heq
      split at heq <;> cases heq
      simp [encodeLong, le16] at h
      rw [← h, int2b1_ok hci]
      rfl

@[simp] theorem tc16_toNat (v : Word16) : tc16 (v.toNat : Int) = v := by
  simp [tc16]

theorem isBuilt_iff {bs : List Byte} {e : Except ErrorKind (List Byte)} : isBuilt bs e = true ↔ e = .ok bs := by
  cases e <;> simp [isBuilt]

/-- The rows the builders use are the ones R67 lists, opcode bytes and second parameter. -/
theorem shortRows_bytes (cfg : Config) : (shortRows cfg).map (fun r => [lo r.1, hi r.1, tc8 r.2]) =
    [[0x10, 0x02, BitVec.ofInt 8 cfg.enCode], [0x10, 0x02, BitVec.ofInt 8 cfg.disCode],
      [0x11, 0x02, BitVec.ofInt 8 cfg.queryP2], [0x40, 0x06, BitVec.ofInt 8 cfg.modeCodeOpen],
      [0x40, 0x06, BitVec.ofInt 8 cfg.modeCodeClosed], [0x41, 0x06, BitVec.ofInt 8 cfg.queryP2],
      [0x44, 0x06, BitVec.ofInt 8 cfg.queryP2], [0x47, 0x06, BitVec.ofInt 8 cfg.queryP2],
      [0x58, 0x06, BitVec.ofInt 8 cfg.queryP2]] := by
  simp [shortRows, lo, hi, tc8, opEnable, opQueryEnable, opSetMode, opQueryMode, opQueryVoltage, opQueryPosition, opZero]

/-- A six-byte frame of R67 is the identify frame or a short row of some channel. -/
theorem isBlockFrame_short_iff (cfg : Config) (o0 o1 p1 p2 dest src : Byte) :
    isBlockFrame cfg [o0, o1, p1, p2, dest, src] = true ↔ src = hostAddr ∧
      ([o0, o1, p1, p2, dest] = [0x23, 0x02, cfg.identP1, cfg.identP2, controllerAddr] ∨
        ∃ c, dest = bay c ∧ p1 = tc8 (chanIdent cfg c) ∧ ∃ r ∈ shortRows cfg, [lo r.1, hi r.1, tc8 r.2] = [o0, o1, p2]) := by
  rw [isBlockFrame, ← shortRows_bytes]
  simp only [Bool.and_eq_true, Bool.or_eq_true, List.any_eq_true, beq_iff_eq, List.contains_iff_mem, List.mem_map]
  refine and_congr_right fun _ => or_congr Iff.rfl ⟨?_, ?_⟩
  · rintro ⟨⟨c, -, hd, hp⟩, hr⟩
    exact ⟨c, hd, hp, hr⟩
  · rintro ⟨c, hd, hp, hr⟩
    exact ⟨⟨c, by cases c <;> decide, hd, hp⟩, hr⟩

/-- A listed frame is one of R67, byte by byte. -/
theorem isBlockFrame_of_isListedFrame {cfg : Config} {bs : List Byte} (h : isListedFrame cfg bs = true) :
    isBlockFrame cfg bs = true := by
  simp only [isListedFrame, Bool.or_eq_true, Bool.and_eq_true, List.any_eq_true, isBuilt_iff, beq_iff_eq,
    decide_eq_true_eq] at h
  obtain (rfl | ⟨c, -, r, hr, h⟩) | ⟨hv, c, -, op, hop, h⟩ := h
  · simp [isBlockFrame, encodeShort, opIdentify, hostAddr, controllerAddr, lo, hi]
  · rw [shortFrame_ok h, isBlockFrame_short_iff]
    exact ⟨rfl, .inr ⟨c, rfl, rfl, r, hr, rfl⟩⟩
  · have e := longFrame_ok h
    generalize word16 (valueLo bs) (valueHi bs) = v at *
    rw [tc16_toNat] at e
    rw [e]
    have hm : v.getLsbD 15 = false := by
      rw [← BitVec.msb_eq_getLsbD_last v, BitVec.msb_eq_decide]; simp; omega
    simp only [longRows, List.mem_cons, List.not_mem_nil, or_false] at hop
    rcases hop with rfl | rfl <;> cases c <;>
      simp_all [isBlockFrame, hostAddr, tc8, lo, hi, opSetVoltage, opSetPosition, dataBit]

/-- Every short row of R67 is listed, for every channel. -/
theorem isListedFrame_short {cfg : Config} (h : configLegal cfg = true) (c : Chan) {r : Word16 × Int}
    (hr : r ∈ shortRows cfg) :
    isListedFrame cfg [lo r.1, hi r.1, tc8 (chanIdent cfg c), tc8 r.2, bay c, hostAddr] = true := by
  have hf : fitsByte r.2 = true := by
    obtain ⟨-, -, -, -, -, h1, h2, h3, h4, h5, -⟩ := (configLegal_iff cfg).1 h
    have all : ∀ r ∈ shortRows cfg, fitsByte r.2 = true := by simp [shortRows, h1, h2, h3, h4, h5]
    exact all r hr
  simp only [isListedFrame, Bool.or_eq_true, List.any_eq_true, isBuilt_iff]
  exact .inl (.inr ⟨c, by cases c <;> decide, r, hr, shortFrame_legal h _ c hf⟩)

/-- Every long row of R67 is listed, for every channel and scaled value in 0..32767. -/
theorem isListedFrame_long {cfg : Config} (h : configLegal cfg = true) (c : Chan) {op : Word16} (ho : op ∈ longRows)
    {v : Word16} (hv : v.toNat ≤ 32767) :
    isListedFrame cfg [lo op, hi op, 0x04, 0x00, bay c ||| dataBit, hostAddr, tc8 (chanIdent cfg c), 0x00, lo v, hi v]
      = true := by
  simp only [isListedFrame, Bool.or_eq_true, Bool.and_eq_true, List.any_eq_true, isBuilt_iff, decide_eq_true_eq]
  have e : word16 (valueLo [lo op, hi op, 0x04, 0x00, bay c ||| dataBit, hostAddr, tc8 (chanIdent cfg c), 0x00, lo v, hi v])
    (valueHi [lo op, hi op, 0x04, 0x00, bay c ||| dataBit, hostAddr, tc8 (chanIdent cfg c), 0x00, lo v, hi v]) = v :=
    word16_lo_hi v
  rw [e]
  refine .inr ⟨hv, c, by cases c <;> decide, op, ho, ?_⟩
  rw [longFrame_legal h op c (by omega) (by omega), tc16_toNat]

/-- Under a legal configuration the builders give every frame that R67 lists byte by byte. -/
theorem isListedFrame_of_isBlockFrame {cfg : Config} (hl : configLegal cfg = true) {bs : List Byte}
    (h : isBlockFrame cfg bs = true) : isListedFrame cfg bs = true := by
  unfold isBlockFrame at h
  split at h
  · rename_i o0 o1 p1 p2 dest src
    obtain ⟨rfl, h | ⟨c, rfl, rfl, r, hr, e⟩⟩ := (isBlockFrame_short_iff cfg o0 o1 p1 p2 dest src).1 h
    · simp only [List.cons.injEq] at h
      obtain ⟨rfl, rfl, rfl, rfl, rfl, -⟩ := h
      simp [isListedFrame, encodeShort, opIdentify, hostAddr, controllerAddr, lo, hi]
    · simp only [List.cons.injEq] at e
      obtain ⟨rfl, rfl, rfl, -⟩ := e
      exact isListedFrame_short hl c hr
  · rename_i o0 o1 l0 l1 dest src ci hb v0 v1
    simp only [Bool.and_eq_true, List.any_eq_true, beq_iff_eq] at h
    obtain ⟨⟨⟨⟨⟨⟨rfl, rfl⟩, rfl⟩, rfl⟩, c, -, rfl, rfl⟩, h⟩, hv⟩ := h
    have hb1 : v1.toNat < 128 := by
      have := v1.isLt
      simp only [Bool.not_eq_true'] at hv
      have : v1.msb = false := by rw [BitVec.msb_eq_getLsbD_last]; exact hv
      rw [BitVec.msb_eq_decide] at this; simp at this; omega
    have hw : (word16 v0 v1).toNat ≤ 32767 := by rw [word16_toNat]; have := v0.isLt; omega
    have key := fun op ho => isListedFrame_long hl c (op := op) ho hw
    simp only [lo_word16, hi_word16] at key
    simp at h
    rcases h with ⟨rfl, rfl⟩ | ⟨rfl, rfl⟩
    · exact key 0x0643 (by decide)
    · exact key 0x0646 (by decide)
  · cases h

end Sys2Proof.Machine
end

