-- ==== Sys2Proof/Laws/PerInstr.lean ====
section
/-! SUPPORT. Per instruction: what the encoder writes is selected by the instruction's own row of the opcode table (spec
30_encoding R60, R77, R78). -/

namespace Sys2Proof.Laws.RowForm

open Sys2Proof Sys2Proof.Machine

/-- The encoding of a well-formed instruction lies under its row's mask and match, at the default parameters. -/
def Statement (i : Instr) : Prop :=
  i.wellFormed = true → (rowKey i).selects (encode Config.default i) = true

/-- Masking a header byte by byte (R60). -/
theorem header_and (b0 b1 b2 b3 b4 b5 m0 m1 m2 m3 m4 m5 : Byte) :
    (b5 ++ b4 ++ b3 ++ b2 ++ b1 ++ b0 : BitVec 48) &&& (m5 ++ m4 ++ m3 ++ m2 ++ m1 ++ m0) =
      (b5 &&& m5) ++ (b4 &&& m4) ++ (b3 &&& m3) ++ (b2 &&& m2) ++ (b1 &&& m1) ++ (b0 &&& m0) := by
  simp only [BitVec.and_append]

/-- A header is selected where each byte is, the destination byte under the table's mask `0x80` or `0xFF`. -/
theorem header_selects {mask key : BitVec 48} {b0 b1 b2 b3 b4 b5 k0 k1 k2 k3 k4 k5 : Byte} (rest : List Byte)
    (m0 m1 m2 m3 m4 m5 : Byte) (hm : mask = m5 ++ m4 ++ m3 ++ m2 ++ m1 ++ m0)
    (hk : key = k5 ++ k4 ++ k3 ++ k2 ++ k1 ++ k0) (h0 : b0 &&& m0 = k0) (h1 : b1 &&& m1 = k1) (h2 : b2 &&& m2 = k2)
    (h3 : b3 &&& m3 = k3) (h4 : b4 &&& m4 = k4) (h5 : b5 &&& m5 = k5) :
    (RowKey.header mask key (rest.length + 6)).selects (.toDevice (b0 :: b1 :: b2 :: b3 :: b4 :: b5 :: rest)) = true := by
  subst hm hk h0 h1 h2 h3 h4 h5
  simp only [RowKey.selects, headerNumber, header_and, List.length_cons, beq_self_eq_true, Bool.and_self]

theorem shortDest_bit (dest : BitVec 7) : shortDest dest &&& 0x80 = 0x00 := by revert dest; decide
theorem longDest_bit (dest : BitVec 7) : longDest dest &&& 0x80 = 0x80 := by revert dest; decide
theorem and_zero_byte (b : Byte) : b &&& 0x00 = 0x00 := by simp

theorem frameIdentify (p1 p2 : Byte) : Statement (.frameIdentify p1 p2) := fun _ =>
  header_selects [] 0xFF 0xFF 0x00 0x00 0xFF 0xFF (by decide) (k2 := 0) (k3 := 0) (k4 := 0x50) (k5 := 1) (k0 := 0x23) (k1 := 0x02) (by decide)
    (by decide) (by decide) (and_zero_byte _) (and_zero_byte _) (by decide) (by decide)
theorem frameEnable (ci : Byte) (dest : BitVec 7) : Statement (.frameEnable ci dest) := fun _ =>
  header_selects [] 0xFF 0xFF 0x00 0xFF 0x80 0xFF (by decide) (k0 := 0x10) (k1 := 0x02) (k2 := 0) (k3 := 1) (k4 := 0) (k5 := 1) (by decide)
    (by decide) (by decide) (and_zero_byte _) (by decide) (shortDest_bit _) (by decide)
theorem frameDisable (ci : Byte) (dest : BitVec 7) : Statement (.frameDisable ci dest) := fun _ =>
  header_selects [] 0xFF 0xFF 0x00 0xFF 0x80 0xFF (by decide) (k0 := 0x10) (k1 := 0x02) (k2 := 0) (k3 := 2) (k4 := 0) (k5 := 1) (by decide)
    (by decide) (by decide) (and_zero_byte _) (by decide) (shortDest_bit _) (by decide)
theorem frameReqEnable (ci p2 : Byte) (dest : BitVec 7) : Statement (.frameReqEnable ci p2 dest) := fun _ =>
  header_selects [] 0xFF 0xFF 0x00 0x00 0x80 0xFF (by decide) (k0 := 0x11) (k1 := 0x02) (k2 := 0) (k3 := 0) (k4 := 0) (k5 := 1) (by decide)
    (by decide) (by decide) (and_zero_byte _) (and_zero_byte _) (shortDest_bit _) (by decide)
theorem frameSetMode (ci p2 : Byte) (dest : BitVec 7) : Statement (.frameSetMode ci p2 dest) := fun _ =>
  header_selects [] 0xFF 0xFF 0x00 0x00 0x80 0xFF (by decide) (k0 := 0x40) (k1 := 0x06) (k2 := 0) (k3 := 0) (k4 := 0) (k5 := 1) (by decide)
    (by decide) (by decide) (and_zero_byte _) (and_zero_byte _) (shortDest_bit _) (by decide)
theorem frameReqMode (ci p2 : Byte) (dest : BitVec 7) : Statement (.frameReqMode ci p2 dest) := fun _ =>
  header_selects [] 0xFF 0xFF 0x00 0x00 0x80 0xFF (by decide) (k0 := 0x41) (k1 := 0x06) (k2 := 0) (k3 := 0) (k4 := 0) (k5 := 1) (by decide)
    (by decide) (by decide) (and_zero_byte _) (and_zero_byte _) (shortDest_bit _) (by decide)
theorem frameReqVolt (ci p2 : Byte) (dest : BitVec 7) : Statement (.frameReqVolt ci p2 dest) := fun _ =>
  header_selects [] 0xFF 0xFF 0x00 0x00 0x80 0xFF (by decide) (k0 := 0x44) (k1 := 0x06) (k2 := 0) (k3 := 0) (k4 := 0) (k5 := 1) (by decide)
    (by decide) (by decide) (and_zero_byte _) (and_zero_byte _) (shortDest_bit _) (by decide)
theorem frameReqPos (ci p2 : Byte) (dest : BitVec 7) : Statement (.frameReqPos ci p2 dest) := fun _ =>
  header_selects [] 0xFF 0xFF 0x00 0x00 0x80 0xFF (by decide) (k0 := 0x47) (k1 := 0x06) (k2 := 0) (k3 := 0) (k4 := 0) (k5 := 1) (by decide)
    (by decide) (by decide) (and_zero_byte _) (and_zero_byte _) (shortDest_bit _) (by decide)
theorem frameZero (ci p2 : Byte) (dest : BitVec 7) : Statement (.frameZero ci p2 dest) := fun _ =>
  header_selects [] 0xFF 0xFF 0x00 0x00 0x80 0xFF (by decide) (k0 := 0x58) (k1 := 0x06) (k2 := 0) (k3 := 0) (k4 := 0) (k5 := 1) (by decide)
    (by decide) (by decide) (and_zero_byte _) (and_zero_byte _) (shortDest_bit _) (by decide)
theorem frameSetVolt (dest : BitVec 7) (ci hi : Byte) (value : Word16) : Statement (.frameSetVolt dest ci hi value) := fun _ =>
  header_selects [_, _, _, _] 0xFF 0xFF 0xFF 0xFF 0x80 0xFF (by decide) (k0 := 0x43) (k1 := 0x06) (k2 := 4) (k3 := 0) (k4 := 0x80) (k5 := 1) (by decide)
    (by decide) (by decide) (by decide) (by decide) (longDest_bit _) (by decide)
theorem frameSetPos (dest : BitVec 7) (ci hi : Byte) (value : Word16) : Statement (.frameSetPos dest ci hi value) := fun _ =>
  header_selects [_, _, _, _] 0xFF 0xFF 0xFF 0xFF 0x80 0xFF (by decide) (k0 := 0x46) (k1 := 0x06) (k2 := 4) (k3 := 0) (k4 := 0x80) (k5 := 1) (by decide)
    (by decide) (by decide) (by decide) (by decide) (longDest_bit _) (by decide)
theorem reply6 (b0 b1 b2 b3 b4 b5 : Byte) : Statement (.reply6 b0 b1 b2 b3 b4 b5) := fun _ => rfl
theorem reply10 (b0 b1 b2 b3 b4 b5 b6 b7 b8 b9 : Byte) : Statement (.reply10 b0 b1 b2 b3 b4 b5 b6 b7 b8 b9) := fun _ => rfl
theorem identify : Statement (.identify) := fun _ => rfl
theorem enable (ch : Byte) : Statement (.enable ch) := fun _ => rfl
theorem disable (ch : Byte) : Statement (.disable ch) := fun _ => rfl
theorem setMode (ch : Byte) (closedLoop : Bool) : Statement (.setMode ch closedLoop) := fun _ => rfl
theorem zero (ch : Byte) : Statement (.zero ch) := fun _ => rfl
theorem pollZero (ch : Byte) : Statement (.pollZero ch) := fun _ => rfl
theorem position (ch : Byte) (pos : Int) : Statement (.position ch pos) := fun _ => rfl
theorem getPosition (ch : Byte) : Statement (.getPosition ch) := fun _ => rfl
theorem setVolt (ch : Byte) (volts : Int) : Statement (.setVolt ch volts) := fun _ => rfl
theorem getVolt (ch : Byte) : Statement (.getVolt ch) := fun _ => rfl
theorem rampVolt (ch : Byte) (target : Int) (steps : Word16) (delayMs : Word32) : Statement (.rampVolt ch target steps delayMs) := fun _ => rfl
theorem shutdown : Statement (.shutdown) := fun _ => rfl
theorem getMode (ch : Byte) : Statement (.getMode ch) := fun _ => rfl
theorem getEnable (ch : Byte) : Statement (.getEnable ch) := fun _ => rfl
theorem reserved0E : Statement (.reserved0E) := fun _ => rfl
theorem reserved0F : Statement (.reserved0F) := fun _ => rfl
theorem encodeShort (opcode : Word16) (p1 p2 dest src : Byte) : Statement (.encodeShort opcode p1 p2 dest src) := fun _ => rfl
theorem encodeLong (opcode : Word16) (dest src : Byte) (payload : List Byte) : Statement (.encodeLong opcode dest src payload) := fun _ => rfl
theorem decodeRaw (raw : List Byte) : Statement (.decodeRaw raw) := fun _ => rfl
theorem pos2Scaled (pos : Int) (max : Maximum) : Statement (.pos2Scaled pos max) := fun _ => rfl
theorem scaled2Pos (raw : Word16) (max : Maximum) : Statement (.scaled2Pos raw max) := fun _ => rfl
theorem volt2Scaled (volts : Ratio) (max : Maximum) : Statement (.volt2Scaled volts max) := fun _ => rfl
theorem scaled2Volt (raw : Word16) (max : Maximum) : Statement (.scaled2Volt raw max) := fun _ => rfl
theorem bayAddr (ch : Byte) : Statement (.bayAddr ch) := fun _ => rfl
theorem int2b1 (v : Int) : Statement (.int2b1 v) := fun _ => rfl
theorem int2b2 (v : Int) : Statement (.int2b2 v) := fun _ => rfl
theorem b2u16 (b0 b1 : Byte) : Statement (.b2u16 b0 b1) := fun _ => rfl
theorem b2i16 (b0 b1 : Byte) : Statement (.b2i16 b0 b1) := fun _ => rfl
theorem reserved1C : Statement (.reserved1C) := fun _ => rfl
theorem reserved1D : Statement (.reserved1D) := fun _ => rfl
theorem reserved1E : Statement (.reserved1E) := fun _ => rfl
theorem reserved1F : Statement (.reserved1F) := fun _ => rfl

end Sys2Proof.Laws.RowForm
end

