-- ==== Sys2Proof/Laws/Run.lean ====
section
/-! SUPPORT. What every ending of a stretch of pseudocode has in common, and with it what each command's pseudocode can
write (spec 10_state R31). -/

namespace Sys2Proof.Machine

open Safety

/-- Every way the pseudocode can end leaves a state with `P`. -/
def Run.All {α : Type} (P : State → Prop) : Run α → Prop
  | .ret s _ => P s
  | .raised s _ => P s
  | .blocked s => P s

theorem Run.All.imp {α : Type} {P Q : State → Prop} (h : ∀ s, P s → Q s) {r : Run α} (hr : r.All P) : r.All Q := by
  cases r <;> exact h _ hr

theorem Run.all_andThen {α β : Type} {P : State → Prop} {r : Run α} {f : State → α → Run β} (hr : r.All P)
    (hf : ∀ s a, P s → (f s a).All P) : (r.andThen f).All P := by
  cases r with
  | ret s a => exact hf s a hr
  | raised s e => exact hr
  | blocked s => exact hr

theorem liftExcept_all {α : Type} {P : State → Prop} {s : State} (h : P s) (e : Except ErrorKind α) :
    (liftExcept s e).All P := by
  cases e <;> exact h

/-- The report after the pseudocode, or none: what holds of its ending and of a report of it. -/
theorem conclude_all {P : State → Prop} {r : Run Result} {t : State} (hr : r.All P) (h : conclude r = .next t) :
    P t ∨ ∃ u x, P u ∧ t = report x u := by
  obtain ⟨s, a, rfl, rfl⟩ | ⟨s, e, rfl, rfl⟩ | rfl := conclude_next h
  · exact .inr ⟨s, _, hr, rfl⟩
  · exact .inr ⟨s, _, hr, rfl⟩
  · exact .inl hr

/-- `t` follows `s` with at most the registers written that the flags allow (R31): `ws` for `seq`, `wm` for `mode`, `wo`
for `session_open`. Configuration, response and the parties' events are never touched, history and transmit stream only
grow. -/
structure Follows (ws wm wo : Bool) (s t : State) : Prop where
  config     : t.config = s.config
  cfgMaxPos  : t.cfgMaxPos = s.cfgMaxPos
  cfgMaxVolt : t.cfgMaxVolt = s.cfgMaxVolt
  inbox      : t.inbox = s.inbox
  response   : t.response = s.response
  history    : ∃ es, t.history = s.history ++ es
  txStream   : ∃ bs, t.txStream = s.txStream ++ bs
  seq        : ws = false → t.seq = s.seq
  mode       : wm = false → t.mode = s.mode
  session    : wo = false → t.sessionOpen = s.sessionOpen

theorem Follows.rfl' {ws wm wo : Bool} {s : State} : Follows ws wm wo s s :=
  ⟨rfl, rfl, rfl, rfl, rfl, ⟨[], by simp⟩, ⟨[], by simp⟩, fun _ => rfl, fun _ => rfl, fun _ => rfl⟩

theorem Follows.trans' {ws wm wo : Bool} {s t u : State} (h : Follows ws wm wo s t) (k : Follows ws wm wo t u) :
    Follows ws wm wo s u := by
  obtain ⟨es, he⟩ := h.history
  obtain ⟨fs, hf⟩ := k.history
  obtain ⟨bs, hb⟩ := h.txStream
  obtain ⟨cs, hc⟩ := k.txStream
  exact ⟨k.config.trans h.config, k.cfgMaxPos.trans h.cfgMaxPos, k.cfgMaxVolt.trans h.cfgMaxVolt,
    k.inbox.trans h.inbox, k.response.trans h.response, ⟨es ++ fs, by rw [hf, he, List.append_assoc]⟩,
    ⟨bs ++ cs, by rw [hc, hb, List.append_assoc]⟩, fun w => (k.seq w).trans (h.seq w),
    fun w => (k.mode w).trans (h.mode w), fun w => (k.session w).trans (h.session w)⟩

theorem Follows.andThen {ws wm wo : Bool} {α β : Type} {s : State} {r : Run α} {f : State → α → Run β}
    (hr : r.All (Follows ws wm wo s)) (hf : ∀ t a, (f t a).All (Follows ws wm wo t)) :
    (r.andThen f).All (Follows ws wm wo s) :=
  Run.all_andThen hr fun t a h => (hf t a).imp fun _ k => h.trans' k

theorem txWrite_follows {ws wm wo : Bool} (frame : List Byte) (s : State) :
    (txWrite frame s).All (Follows ws wm wo s) := by
  obtain ⟨-, e⟩ | ⟨moved, -, e⟩ := txWrite_cases frame s <;> rw [e]
  · exact ⟨rfl, rfl, rfl, rfl, rfl, ⟨_, rfl⟩, ⟨_, rfl⟩, fun _ => rfl, fun _ => rfl, fun _ => rfl⟩
  · exact ⟨rfl, rfl, rfl, rfl, rfl, ⟨[], by simp⟩, ⟨_, rfl⟩, fun _ => rfl, fun _ => rfl, fun _ => rfl⟩

theorem rxRead_follows {ws wm wo : Bool} (x : Exchange) (s : State) : (rxRead x s).All (Follows ws wm wo s) := by
  obtain ⟨moved, -, e⟩ | ⟨-, -, e⟩ | ⟨-, -, e⟩ := rxRead_cases x s <;> rw [e]
  · exact ⟨rfl, rfl, rfl, rfl, rfl, ⟨[], by simp⟩, ⟨[], by simp⟩, fun _ => rfl, fun _ => rfl, fun _ => rfl⟩
  · exact ⟨rfl, rfl, rfl, rfl, rfl, ⟨_, rfl⟩, ⟨[], by simp⟩, fun _ => rfl, fun _ => rfl, fun _ => rfl⟩
  · exact ⟨rfl, rfl, rfl, rfl, rfl, ⟨[], by simp⟩, ⟨[], by simp⟩, fun _ => rfl, fun _ => rfl, fun _ => rfl⟩

theorem closeTransport_follows {ws wm wo : Bool} (s : State) : (closeTransport s).All (Follows ws wm wo s) := by
  obtain ⟨-, e⟩ | ⟨moved, -, e⟩ := closeTransport_cases s <;> rw [e]
  · exact ⟨rfl, rfl, rfl, rfl, rfl, ⟨_, rfl⟩, ⟨[], by simp⟩, fun _ => rfl, fun _ => rfl, fun _ => rfl⟩
  · exact ⟨rfl, rfl, rfl, rfl, rfl, ⟨[], by simp⟩, ⟨[], by simp⟩, fun _ => rfl, fun _ => rfl, fun _ => rfl⟩

theorem setSeq_follows {wm wo : Bool} (c : Chan) (v : Seq) (s : State) : Follows true wm wo s (s.setSeq c v) :=
  ⟨rfl, rfl, rfl, rfl, rfl, ⟨[], by simp⟩, ⟨[], by simp⟩, fun h => by simp at h, fun _ => rfl, fun _ => rfl⟩

theorem setMode_follows {ws wo : Bool} (c : Chan) (v : Mode) (s : State) : Follows ws true wo s (s.setMode c v) :=
  ⟨rfl, rfl, rfl, rfl, rfl, ⟨[], by simp⟩, ⟨[], by simp⟩, fun _ => rfl, fun h => by simp at h, fun _ => rfl⟩

theorem setSession_follows {ws wm : Bool} (v : Bool) (s : State) : Follows ws wm true s (s.setSession v) :=
  ⟨rfl, rfl, rfl, rfl, rfl, ⟨[], by simp⟩, ⟨[], by simp⟩, fun _ => rfl, fun _ => rfl, fun h => by simp at h⟩

theorem waitMs_follows {ws wm wo : Bool} (ms : Word32) (s : State) : Follows ws wm wo s (waitMs ms s) :=
  ⟨rfl, rfl, rfl, rfl, rfl, ⟨_, rfl⟩, ⟨[], by simp⟩, fun _ => rfl, fun _ => rfl, fun _ => rfl⟩

theorem sendShort_follows {ws wm wo : Bool} (opcode : Word16) (c : Chan) (p2 : Int) (s : State) :
    (sendShort opcode c p2 s).All (Follows ws wm wo s) :=
  Follows.andThen (liftExcept_all Follows.rfl' _) fun t f => txWrite_follows f t

theorem sendLong_follows {ws wm wo : Bool} (opcode : Word16) (c : Chan) (scaled : Int) (s : State) :
    (sendLong opcode c scaled s).All (Follows ws wm wo s) :=
  Follows.andThen (liftExcept_all Follows.rfl' _) fun t f => txWrite_follows f t

theorem query_follows {ws wm wo : Bool} (opcode : Word16) (c : Chan) (x : Exchange) (s : State) :
    (query opcode c x s).All (Follows ws wm wo s) :=
  Follows.andThen (sendShort_follows _ _ _ _) fun t _ => rxRead_follows x t

theorem withChannel_all {P : State → Prop} {ch : Byte} {s : State} {body : Chan → State → Run Result} (h : P s)
    (hb : ∀ c, (body c s).All P) : (withChannel ch s body).All P := by
  unfold withChannel
  split
  · exact hb _
  · exact h

theorem noResult_all {P : State → Prop} {s : State} (h : P s) (u : Unit) : (noResult s u).All P := h

/-! ### What each command's pseudocode can write (R31) -/

theorem enableBody_follows {wm wo : Bool} (c : Chan) (s : State) : (enableBody c s).All (Follows true wm wo s) :=
  Follows.andThen (sendShort_follows _ _ _ _) fun t _ => setSeq_follows c _ t

theorem disableBody_follows {wm wo : Bool} (c : Chan) (s : State) : (disableBody c s).All (Follows true wm wo s) :=
  Follows.andThen (sendShort_follows _ _ _ _) fun t _ => setSeq_follows c _ t

theorem setModeBody_follows {ws wo : Bool} (c : Chan) (closed : Bool) (s : State) :
    (setModeBody c closed s).All (Follows ws true wo s) :=
  Follows.andThen (sendShort_follows _ _ _ _) fun t _ => setMode_follows c _ t

theorem zeroBody_follows {wm wo : Bool} (c : Chan) (s : State) : (zeroBody c s).All (Follows true wm wo s) :=
  Follows.andThen (enableBody_follows c s) fun _ _ =>
    Follows.andThen (sendShort_follows _ _ _ _) fun t _ => setSeq_follows c _ t

theorem pollFinish_follows {wm wo : Bool} (c : Chan) (raw : List Byte) (s : State) :
    (pollFinish c raw s).All (Follows true wm wo s) := by
  unfold pollFinish
  split
  · exact setSeq_follows c _ s
  · exact Follows.rfl'

theorem pollZeroBody_follows {wm wo : Bool} (c : Chan) (s : State) : (pollZeroBody c s).All (Follows true wm wo s) :=
  Follows.andThen (query_follows _ _ _ _) fun t raw => pollFinish_follows c raw t

theorem positionBody_follows {ws wm wo : Bool} (pos : Int) (c : Chan) (s : State) :
    (positionBody pos c s).All (Follows ws wm wo s) := by
  unfold positionBody
  split
  · exact Follows.rfl'
  · split
    · exact Follows.rfl'
    · exact Follows.andThen (liftExcept_all Follows.rfl' _) fun _ _ =>
        Follows.andThen (sendLong_follows _ _ _ _) fun t _ => Follows.rfl'

theorem setVoltBody_follows {ws wm wo : Bool} (num : Int) (den : Nat) (c : Chan) (s : State) :
    (setVoltBody num den c s).All (Follows ws wm wo s) := by
  unfold setVoltBody
  split
  · exact Follows.rfl'
  · exact Follows.andThen (liftExcept_all Follows.rfl' _) fun _ _ => sendLong_follows _ _ _ _

theorem rampSetPoints_follows {ws wm wo : Bool} (raw target : Int) (steps : Nat) (delayMs : Word32) (c : Chan) (k : Nat)
    (s : State) : (rampSetPoints raw target steps delayMs c k s).All (Follows ws wm wo s) := by
  induction k generalizing s with
  | zero => exact setVoltBody_follows _ _ _ _
  | succ k ih =>
    exact Follows.andThen (setVoltBody_follows _ _ _ _) fun t _ =>
      (ih (waitMs delayMs t)).imp fun _ h => (waitMs_follows delayMs t).trans' h

theorem rampFinish_follows {ws wm wo : Bool} (target : Int) (steps : Nat) (delayMs : Word32) (c : Chan)
    (reply : List Byte) (s : State) : (rampFinish target steps delayMs c reply s).All (Follows ws wm wo s) :=
  rampSetPoints_follows _ _ _ _ _ _ _

theorem rampBody_follows {ws wm wo : Bool} (target : Int) (steps : Nat) (delayMs : Word32) (x : Exchange) (c : Chan)
    (s : State) : (rampBody target steps delayMs x c s).All (Follows ws wm wo s) :=
  Follows.andThen (liftExcept_all Follows.rfl' _) fun _ _ =>
    Follows.andThen (query_follows _ _ _ _) fun _ _ => rampFinish_follows _ _ _ _ _ _

theorem shutdownFrom_follows {ws : Bool} (cs : List Chan) (s : State) :
    (shutdownFrom cs s).All (Follows ws true true s) := by
  induction cs generalizing s with
  | nil => exact Follows.andThen (closeTransport_follows s) fun t _ => setSession_follows false t
  | cons c cs ih =>
    exact Follows.andThen (setModeBody_follows _ _ _) fun _ _ =>
      Follows.andThen (rampBody_follows _ _ _ _ _ _) fun t _ => ih t

/-- Which registers the rest of a waiting command can write. -/
theorem afterReply_follows (x : Exchange) (reply : List Byte) (s : State) :
    (afterReply x reply s).All (Follows (match x with | .pollZero _ => true | _ => false)
      (match x with | .shutdown _ => true | _ => false) (match x with | .shutdown _ => true | _ => false) s) := by
  cases x with
  | pollZero c => exact pollFinish_follows c reply s
  | getMode c => exact Follows.rfl'
  | getEnable c => exact Follows.rfl'
  | getPosition c => exact Follows.rfl'
  | getVolt c => exact Follows.rfl'
  | ramp c target steps delayMs =>
    exact Follows.andThen (rampFinish_follows _ _ _ _ _ _) fun _ _ => Follows.rfl'
  | shutdown c =>
    exact Follows.andThen (Follows.andThen (rampFinish_follows _ _ _ _ _ _) fun t _ => shutdownFrom_follows _ t)
      fun _ _ => Follows.rfl'

end Sys2Proof.Machine
end

