-- ==== Sys2Proof/Laws/Wire.lean ====
section
/-! SUPPORT. What a frame, an arrival, a failure of the access in progress and a reset can do (spec 20_memory R44 to R46,
70_reset_and_hazards R185, R198). -/

namespace Sys2Proof.Machine

open Safety

/-- An instruction that encodes to a frame is the write of that frame. -/
theorem exec_of_toDevice {cfg : Config} {i : Instr} {bs : List Byte} (h : encode cfg i = .toDevice bs) (s : State) :
    exec i s = writeFrame i s := by
  cases i <;> first | rfl | cases h

/-- An instruction that encodes to a reply is the arrival of its bytes. -/
theorem exec_of_fromDevice {cfg : Config} {i : Instr} {bs : List Byte} (h : encode cfg i = .fromDevice bs) (s : State) :
    exec i s = arrive bs s := by
  cases i <;> cases h <;> rfl

/-- A reply has six or ten bytes (R55). -/
theorem length_of_fromDevice {cfg : Config} {i : Instr} {bs : List Byte} (h : encode cfg i = .fromDevice bs) :
    bs.length = 6 ∨ bs.length = 10 := by
  cases i <;> cases h <;> simp

/-- Everything a frame instruction can answer: the listed frame written, its failure reported, or a refusal. -/
theorem writeFrame_cases (i : Instr) (s : State) :
    (s.exchange = none ∧ s.sessionOpen = true ∧ isListedFrame s.config (wireBytes (encode s.config i)) = true ∧
      s.verdicts.headD .completes = .completes ∧
      writeFrame i s = .next ((s.popVerdict.emit (wireBytes (encode s.config i))).log
        (.tx (wireBytes (encode s.config i))))) ∨
    (s.exchange = none ∧ s.sessionOpen = true ∧ isListedFrame s.config (wireBytes (encode s.config i)) = true ∧
      ∃ moved, s.verdicts.headD .completes = .fails moved ∧
        writeFrame i s = .next (report (.error .transportFailure)
          (s.popVerdict.emit ((wireBytes (encode s.config i)).take moved)))) ∨
    (s.exchange = none ∧ s.sessionOpen = true ∧ isListedFrame s.config (wireBytes (encode s.config i)) = false ∧
      writeFrame i s = .refused .frameNotListed) ∨
    (s.exchange = none ∧ s.sessionOpen = false ∧ writeFrame i s = .refused .sessionClosed) ∨
    (s.exchange ≠ none ∧ writeFrame i s = .refused .busy) := by
  unfold writeFrame
  cases hx : s.exchange with
  | some x => exact .inr (.inr (.inr (.inr ⟨by simp, by simp [accept, hx]⟩)))
  | none =>
    cases ho : s.sessionOpen with
    | false => exact .inr (.inr (.inr (.inl ⟨rfl, rfl, by simp [accept, hx, ho]⟩)))
    | true =>
      rw [accept_open _ hx ho]
      cases hl : isListedFrame s.config (wireBytes (encode s.config i)) with
      | false => exact .inr (.inr (.inl ⟨rfl, rfl, rfl, rfl⟩))
      | true =>
        obtain ⟨hv, e⟩ | ⟨moved, hv, e⟩ := txWrite_cases (wireBytes (encode s.config i)) s
        · exact .inl ⟨rfl, rfl, rfl, hv, by rw [if_pos rfl, e]; rfl⟩
        · exact .inr (.inl ⟨rfl, rfl, rfl, moved, hv, by rw [if_pos rfl, e]; rfl⟩)

/-- With no read outstanding the bytes wait in the receive stream (R168). -/
theorem arrive_idle {s : State} (h : s.exchange = none) (bs : List Byte) :
    arrive bs s = .next { s with rxStream := s.rxStream ++ bs } := by
  simp only [arrive, h, State.setRx]

/-- An outstanding read that now has its bytes takes them, and its command goes on (R45). -/
theorem arrive_completes {s : State} {x : Exchange} (hx : s.exchange = some x)
    (hv : s.verdicts.headD .completes = .completes) {bs : List Byte}
    (hl : replyLen x ≤ (s.rxBuf ++ s.rxStream ++ bs).length) :
    arrive bs s = conclude (afterReply x ((s.rxBuf ++ s.rxStream ++ bs).take (replyLen x))
      { s with
        exchange := none, rxBuf := [], rxStream := (s.rxBuf ++ s.rxStream ++ bs).drop (replyLen x)
        history := s.history ++ [.rx (replyLen x) ((s.rxBuf ++ s.rxStream ++ bs).take (replyLen x))]
        verdicts := s.verdicts.tail }) := by
  rw [List.append_assoc] at *
  simp only [arrive, hx]
  unfold rxRead
  simp only [State.setRx_verdicts, hv, State.setRx_rxBuf, State.setRx_rxStream, hl, if_true, Run.andThen_ret]
  rfl

/-- An outstanding read whose bytes are still not there keeps them and waits on (R179). -/
theorem arrive_waits {s : State} {x : Exchange} (hx : s.exchange = some x)
    (hv : s.verdicts.headD .completes = .completes) {bs : List Byte}
    (hl : (s.rxBuf ++ s.rxStream ++ bs).length < replyLen x) :
    arrive bs s = .next { s with rxBuf := s.rxBuf ++ s.rxStream ++ bs, rxStream := [] } := by
  rw [List.append_assoc] at *
  simp only [arrive, hx]
  rw [rxRead_waits (by simpa using hv) (by simpa using hl)]
  simp [conclude, State.setRx]

/-- A failure of the access in progress ends the waiting command (R165); without one nothing happens. -/
theorem failAccess_cases (moved : Nat) (s : State) :
    (s.exchange = none ∧ failAccess moved s = .next s) ∨
    (s.exchange ≠ none ∧ failAccess moved s = .next (report (.error .transportFailure)
      { s with exchange := none, rxBuf := [], rxStream := s.rxStream.drop moved, verdicts := s.verdicts.tail })) := by
  unfold failAccess
  cases hx : s.exchange with
  | none => exact .inl ⟨rfl, rfl⟩
  | some x => exact .inr ⟨by simp, rfl⟩

/-- A reset is taken with a legal configuration and refused with any other (R185, U7, U15). -/
theorem takeReset_cases (cfg : Config) (s : State) :
    (configLegal cfg = true ∧ takeReset cfg s = .next (resetBlock cfg s)) ∨
    (configLegal cfg = false ∧ takeReset cfg s = .refused .illegalConfiguration) := by
  unfold takeReset
  cases configLegal cfg
  · exact .inr ⟨rfl, rfl⟩
  · exact .inl ⟨rfl, rfl⟩

end Sys2Proof.Machine
end

