-- ==== Sys2Proof/Tests/Slice0.lean ====
section
/-! SUPPORT. The model's own tests. Expected values come from the spec: its tables (30_encoding), its worked examples and
vectors (95_test_vectors, cited by their numbers), or hand calculation from a rule. The last part shows, for every
statement with hypotheses, states and operands that meet them. -/

namespace Sys2Proof.Tests

open Machine Safety Claims

/-- The state a step leaves. -/
def after : Out → Option State
  | .next t => some t
  | .fault _ => none
  | .refused _ => none

/-- The events a step adds, from a state whose history is empty. -/
def events (o : Out) : Option (List Event) := (after o).map (·.history)

/-- The bytes a step writes, from a state that wrote nothing. -/
def written (o : Out) : Option (List Byte) := (after o).map (·.txStream)

/-- The error code and the value on the response port. -/
def answer (o : Out) : Option (BitVec 3 × Int) := (after o).bind fun t => t.response.map fun r => (r.err, r.val)

/-- What a step returns. -/
def returned (o : Out) : Option Result := (after o).bind fun t => t.response.map (·.result)

/-- Reset, with bytes that have come from the device. -/
def withBytes (bs : List Byte) : State := { State.reset with rxStream := bs }

/-- Reset, with one event at the ports. -/
def withEvent (e : PortEvent) : State := { State.reset with inbox := [e] }

/-- Channel 2 in the given state. -/
def withSeq2 (v : Seq) : State := { State.reset with seq := ⟨.disabled, v, .disabled⟩ }

/-- A block that waits in an `RxRead`. -/
def waiting (x : Exchange) (buf : List Byte) : State := { State.reset with exchange := some x, rxBuf := buf }

/-- A value reply with the value bytes given. -/
def reply10 (v0 v1 : Byte) : List Byte := [0x44, 0x06, 0x04, 0x00, 0x83, 0x23, 0x01, 0x00, v0, v1]

/-! ### Ill-formed instructions -/

theorem test_wf_destination_must_be_a_bay :
    [Instr.frameEnable 1 0x24, .frameDisable 1 0x20, .frameReqEnable 1 0 0x50, .frameSetMode 1 3 0, .frameReqMode 1 0 0x7F,
      .frameReqVolt 1 0 0x24, .frameReqPos 1 0 0x20, .frameZero 1 0 0x01, .frameSetVolt 0x24 1 0 5,
      .frameSetPos 0x50 1 0 5].all (fun i => !i.wellFormed) = true := by decide

theorem test_wf_high_ident_byte_must_be_zero :
    (Instr.frameSetVolt 0x21 1 1 5).wellFormed = false ∧ (Instr.frameSetPos 0x21 1 0xFF 5).wellFormed = false := by decide

theorem test_wf_scaled_value_is_not_negative :
    (Instr.frameSetVolt 0x21 1 0 0x8000).wellFormed = false ∧ (Instr.frameSetPos 0x23 1 0 0xFFFF).wellFormed = false ∧
      (Instr.frameSetPos 0x23 1 0 0x7FFF).wellFormed = true := by decide

theorem test_wf_decode_needs_six_bytes :
    (Instr.decodeRaw [1, 2, 3, 4, 5]).wellFormed = false ∧ (Instr.decodeRaw [1, 2, 3, 4, 5, 6]).wellFormed = true := by
  decide

/-! ### Decoding, words written out from R58, R59, R67, R77, R78 -/

theorem test_decode_identify_and_enable_frames :
    decode Config.default (.toDevice [0x23, 0x02, 0xAA, 0xBB, 0x50, 0x01]) = .ok (.frameIdentify 0xAA 0xBB) ∧
    decode Config.default (.toDevice [0x10, 0x02, 0x01, 0x01, 0x21, 0x01]) = .ok (.frameEnable 1 0x21) ∧
    decode Config.default (.toDevice [0x10, 0x02, 0x01, 0x02, 0x23, 0x01]) = .ok (.frameDisable 1 0x23) ∧
    decode Config.default (.toDevice [0x11, 0x02, 0x01, 0x07, 0x22, 0x01]) = .ok (.frameReqEnable 1 7 0x22) := by
  refine ⟨rfl, rfl, rfl, rfl⟩

theorem test_decode_mode_and_query_frames :
    decode Config.default (.toDevice [0x40, 0x06, 0x01, 0x04, 0x21, 0x01]) = .ok (.frameSetMode 1 4 0x21) ∧
    decode Config.default (.toDevice [0x41, 0x06, 0x01, 0x00, 0x21, 0x01]) = .ok (.frameReqMode 1 0 0x21) ∧
    decode Config.default (.toDevice [0x44, 0x06, 0x01, 0x00, 0x23, 0x01]) = .ok (.frameReqVolt 1 0 0x23) ∧
    decode Config.default (.toDevice [0x47, 0x06, 0x01, 0x00, 0x22, 0x01]) = .ok (.frameReqPos 1 0 0x22) ∧
    decode Config.default (.toDevice [0x58, 0x06, 0x01, 0x00, 0x21, 0x01]) = .ok (.frameZero 1 0 0x21) := by
  refine ⟨rfl, rfl, rfl, rfl, rfl⟩

/-- K5 and K6. -/
theorem test_decode_long_frames :
    decode Config.default (.toDevice [0x46, 0x06, 0x04, 0x00, 0xA1, 0x01, 0x01, 0x00, 0x00, 0x40]) =
      .ok (.frameSetPos 0x21 1 0 0x4000) ∧
    decode Config.default (.toDevice [0x43, 0x06, 0x04, 0x00, 0xA3, 0x01, 0x01, 0x00, 0xFF, 0x7F]) =
      .ok (.frameSetVolt 0x23 1 0 0x7FFF) := by
  refine ⟨rfl, rfl⟩

theorem test_decode_replies :
    decode Config.default (.fromDevice [0x41, 0x06, 0x01, 0x02, 0x21, 0x01]) = .ok (.reply6 0x41 6 1 2 0x21 1) ∧
    decode Config.default (.fromDevice [0x47, 0x06, 4, 0, 0x81, 0x21, 1, 0, 0, 0x40]) =
      .ok (.reply10 0x47 6 4 0 0x81 0x21 1 0 0 0x40) := by
  refine ⟨rfl, rfl⟩

theorem test_decode_commands :
    decodeCommand Config.default (.bare 0x00) = .identify ∧ decodeCommand Config.default (.onChan 0x01 9) = .enable 9 ∧
    decodeCommand Config.default (.onChan 0x02 1) = .disable 1 ∧ decodeCommand Config.default (.withVal 0x03 2 1) = .setMode 2 true ∧
    decodeCommand Config.default (.onChan 0x04 3) = .zero 3 ∧ decodeCommand Config.default (.onChan 0x05 3) = .pollZero 3 ∧
    decodeCommand Config.default (.withVal 0x06 1 15000) = .position 1 15000 ∧ decodeCommand Config.default (.onChan 0x07 1) = .getPosition 1 ∧
    decodeCommand Config.default (.withVal 0x08 1 37500) = .setVolt 1 37500 ∧ decodeCommand Config.default (.onChan 0x09 1) = .getVolt 1 ∧
    decodeCommand Config.default ⟨0x0A, 3, 10000, 4, 50, UnitPorts.rest⟩ = .rampVolt 3 10000 4 50 ∧
    decodeCommand Config.default (.bare 0x0B) = .shutdown ∧ decodeCommand Config.default (.onChan 0x0C 2) = .getMode 2 ∧
    decodeCommand Config.default (.onChan 0x0D 2) = .getEnable 2 := by
  refine ⟨rfl, rfl, rfl, rfl, rfl, rfl, rfl, rfl, rfl, rfl, rfl, rfl, rfl, rfl⟩

theorem test_decode_units :
    decodeCommand Config.default (.onUnit 0x10 { UnitPorts.rest with opcode := 0x0223, p1 := 1, p2 := 2, dest := 3, src := 4 }) =
      .encodeShort 0x0223 1 2 3 4 ∧
    decodeCommand Config.default (.onUnit 0x11 { UnitPorts.rest with opcode := 5, dest := 6, src := 7, bytes := [8] }) =
      .encodeLong 5 6 7 [8] ∧
    decodeCommand Config.default (.bare 0x12) = .decodeRaw [0, 0, 0, 0, 0, 0] ∧
    decodeCommand Config.default (.onUnit 0x13 { UnitPorts.rest with int := -1 }) = .pos2Scaled (-1) ⟨1, by decide⟩ ∧
    decodeCommand Config.default (.onUnit 0x14 { UnitPorts.rest with raw := 9 }) = .scaled2Pos 9 ⟨1, by decide⟩ ∧
    decodeCommand Config.default (.bare 0x15) = .volt2Scaled ⟨0, 1, by decide⟩ ⟨1, by decide⟩ ∧
    decodeCommand Config.default (.onUnit 0x16 { UnitPorts.rest with raw := 9 }) = .scaled2Volt 9 ⟨1, by decide⟩ ∧
    decodeCommand Config.default (.onChan 0x17 3) = .bayAddr 3 ∧
    decodeCommand Config.default (.onUnit 0x18 { UnitPorts.rest with int := 5 }) = .int2b1 5 ∧
    decodeCommand Config.default (.onUnit 0x19 { UnitPorts.rest with int := 5 }) = .int2b2 5 ∧
    decodeCommand Config.default (.onUnit 0x1A { UnitPorts.rest with b0 := 1, b1 := 2 }) = .b2u16 1 2 ∧
    decodeCommand Config.default (.onUnit 0x1B { UnitPorts.rest with b0 := 1, b1 := 2 }) = .b2i16 1 2 := by
  refine ⟨rfl, rfl, rfl, rfl, rfl, rfl, rfl, rfl, rfl, rfl, rfl, rfl⟩

theorem test_decode_reserved_codes :
    decodeCommand Config.default (.bare 0x0E) = .reserved0E ∧ decodeCommand Config.default (.bare 0x0F) = .reserved0F ∧
    decodeCommand Config.default (.bare 0x1C) = .reserved1C ∧ decodeCommand Config.default (.bare 0x1D) = .reserved1D ∧
    decodeCommand Config.default (.bare 0x1E) = .reserved1E ∧ decodeCommand Config.default (.bare 0x1F) = .reserved1F := by
  refine ⟨rfl, rfl, rfl, rfl, rfl, rfl⟩

/-- SETMODE takes bit 0 of the value (R77). -/
theorem test_decode_setmode_reads_bit_zero :
    decodeCommand Config.default (.withVal 0x03 2 (-2)) = .setMode 2 false ∧
      decodeCommand Config.default (.withVal 0x03 2 (-1)) = .setMode 2 true := by
  refine ⟨rfl, rfl⟩

/-- The ports carry as many bits as the configuration says, signed (R10, R76). -/
theorem test_decode_follows_the_port_widths :
    decodeCommand Config.default (.withVal 0x08 1 0x7FFFFFFF) = .setVolt 1 2147483647 ∧
    decodeCommand Config.default (.withVal 0x08 1 0xFFFFFFFF) = .setVolt 1 (-1) ∧
    decodeCommand { Config.default with valW := 40 } (.withVal 0x08 1 0xFFFFFFFF) = .setVolt 1 4294967295 ∧
    decodeCommand { Config.default with posW := 16 } (.withVal 0x06 1 40000) = .position 1 (-25536) := by
  refine ⟨rfl, rfl, rfl, rfl⟩

theorem test_decode_rejects_by_name :
    decode Config.default (.toDevice [0x10, 0x02, 0x01]) = .error .frameShape ∧
    decode Config.default (.toDevice [0x10, 0x02, 0x01, 0x03, 0x21, 0x01]) = .error .unknownFrame ∧
    decode Config.default (.toDevice [0x10, 0x02, 0x01, 0x01, 0xA1, 0x01]) = .error .unknownFrame ∧
    decode Config.default (.toDevice [0x23, 0x02, 0x00, 0x00, 0x21, 0x01]) = .error .unknownFrame ∧
    decode Config.default (.toDevice [0x40, 0x06, 0x01, 0x04, 0x21, 0x50]) = .error .unknownFrame ∧
    decode Config.default (.toDevice [0x46, 0x06, 0x04, 0x00, 0x21, 0x01, 1, 0, 0, 0]) = .error .unknownFrame ∧
    decode Config.default (.toDevice [0x46, 0x06, 0x05, 0x00, 0xA1, 0x01, 1, 0, 0, 0]) = .error .unknownFrame ∧
    decode Config.default (.fromDevice [1, 2, 3, 4, 5, 6, 7]) = .error .replyLength := by
  refine ⟨rfl, rfl, rfl, rfl, rfl, rfl, rfl, rfl⟩

/-- With other codes for enable and disable, the configuration's are read (R70). -/
theorem test_decode_follows_the_configuration :
    decode { Config.default with enCode := -1, disCode := 1 } (.toDevice [0x10, 0x02, 0x01, 0x01, 0x21, 0x01]) =
        .ok (.frameDisable 1 0x21) ∧
      decode { Config.default with enCode := -1, disCode := 1 } (.toDevice [0x10, 0x02, 0x01, 0xFF, 0x21, 0x01]) =
        .ok (.frameEnable 1 0x21) := by
  refine ⟨rfl, rfl⟩

/-! ### The table's own bit numbering (opcode_table.json) -/

theorem test_table_words_of_frames :
    decodeTableWord 48 0x015000000223 = some (.frameIdentify 0 0) ∧
    decodeTableWord 48 0x010001000210 = some (.frameEnable 0 0) ∧
    decodeTableWord 48 0x012102010210 = some (.frameDisable 1 0x21) ∧
    decodeTableWord 48 0x018000040643 = some (.frameSetVolt 0 0 0 0) ∧
    decodeTableWord 80 0x400000010 = some (.reply10 0x10 0 0 0 0x04 0 0 0 0 0) := by
  refine ⟨rfl, rfl, rfl, rfl, rfl⟩

theorem test_table_words_of_select_codes :
    decodeTableWord 5 0x00 = some .identify ∧ decodeTableWord 8 0x0B = some .shutdown ∧
    decodeTableWord 5 0x13 = some (.pos2Scaled 0 ⟨1, by decide⟩) ∧ decodeTableWord 5 0x1F = some .reserved1F ∧
    decodeTableWord 8 0x20 = none := by
  refine ⟨rfl, rfl, rfl, rfl, rfl⟩

theorem test_fetch_word_runs_first_after_reset :
    written (step (State.reset.withFetchWord 5 0x00)) = some [0x23, 0x02, 0x00, 0x00, 0x50, 0x01] ∧
    written (step (State.reset.withFetchWord 48 0x012101010210)) = some [0x10, 0x02, 0x01, 0x01, 0x21, 0x01] ∧
    step (State.reset.withFetchWord 48 0x010001000210) = .refused .frameNotListed := by
  refine ⟨by decide, by decide, rfl⟩

/-! ### Commands (95_test_vectors, rows M, E and the programs P) -/

/-- M1. -/
theorem test_identify : events (exec .identify State.reset) =
    some [.tx [0x23, 0x02, 0x00, 0x00, 0x50, 0x01], .done .nothing] := by decide

/-- M2. -/
theorem test_enable : (after (exec (.enable 2) State.reset)).map (fun t => (t.txStream, t.seq, t.response.isSome)) =
    some ([0x10, 0x02, 0x01, 0x01, 0x22, 0x01], ⟨.disabled, .enabled, .disabled⟩, true) := by decide

/-- E1 and E14. -/
theorem test_enable_errors : answer (exec (.enable 4) State.reset) = some (1, 0) ∧
    written (exec (.enable 4) State.reset) = some [] ∧
    (after (exec (.enable 1) { State.reset with verdicts := [.fails 3] })).map (fun t => (t.seq.ch1, t.txStream)) =
      some (.disabled, [0x10, 0x02, 0x01]) := by decide

/-- M3 and R197: readiness is lost. -/
theorem test_disable : (after (exec (.disable 2) (withSeq2 .closedLoopReady))).map (fun t => (t.txStream, t.seq.ch2)) =
    some ([0x10, 0x02, 0x01, 0x02, 0x22, 0x01], .disabled) := by decide

/-- M4 and M5. -/
theorem test_setmode :
    (after (exec (.setMode 3 true) State.reset)).map (fun t => (t.txStream, t.mode.ch3, t.seq.ch3)) =
      some ([0x40, 0x06, 0x01, 0x04, 0x23, 0x01], .closedLoop, .disabled) ∧
    (after (exec (.setMode 1 false) { State.reset with mode := ⟨.closedLoop, .closedLoop, .openLoop⟩ })).map
        (fun t => (t.txStream, t.mode)) =
      some ([0x40, 0x06, 0x01, 0x03, 0x21, 0x01], ⟨.openLoop, .closedLoop, .openLoop⟩) := by decide

/-- M6. -/
theorem test_zero : (after (exec (.zero 1) State.reset)).map (fun t => (t.history, t.seq.ch1)) =
    some ([.tx [0x10, 0x02, 0x01, 0x01, 0x21, 0x01], .tx [0x58, 0x06, 0x01, 0x00, 0x21, 0x01], .done .nothing],
      .zeroRequested) := by decide

/-- E13. -/
theorem test_zero_fails_halfway :
    (after (exec (.zero 1) { State.reset with verdicts := [.completes, .fails 2] })).map
      (fun t => (t.seq.ch1, t.txStream, t.response.map (·.err))) =
    some (.enabled, [0x10, 0x02, 0x01, 0x01, 0x21, 0x01, 0x58, 0x06], some 4) := by decide

/-- M9 (true and ready) and M7 with M10's status (false, nothing changed). -/
theorem test_pollzero :
    (after (exec (.pollZero 2) (withBytes [0, 0, 0, 2, 0, 0]))).map (fun t => (t.seq.ch2, t.response.map (·.val))) =
      some (.closedLoopReady, some 1) ∧
    (after (exec (.pollZero 2) { withSeq2 .closedLoopReady with rxStream := [0, 0, 0, 4, 0, 0, 9] })).map
        (fun t => (t.seq.ch2, t.rxStream, t.response.map (·.val))) = some (.closedLoopReady, [9], some 0) := by decide

/-- E15. -/
theorem test_pollzero_waits : (after (exec (.pollZero 1) (withBytes [1, 2]))).map
    (fun t => (t.exchange, t.rxBuf, t.history)) =
    some (some (.pollZero .ch1), [1, 2], [.tx [0x41, 0x06, 0x01, 0x00, 0x21, 0x01]]) := by decide

/-- M11 and M13. -/
theorem test_position :
    written (exec (.position 2 15000) (withSeq2 .closedLoopReady)) =
      some [0x46, 0x06, 0x04, 0x00, 0xA2, 0x01, 0x01, 0x00, 0x00, 0x40] ∧
    written (exec (.position 2 30000) (withSeq2 .closedLoopReady)) =
      some [0x46, 0x06, 0x04, 0x00, 0xA2, 0x01, 0x01, 0x00, 0xFF, 0x7F] := by decide

/-- E2, E5, E6, E7, E8. -/
theorem test_position_errors :
    answer (exec (.position 0 (-5)) State.reset) = some (1, 0) ∧
    answer (exec (.position 2 100) (withSeq2 .zeroRequested)) = some (3, 0) ∧
    answer (exec (.position 2 30001) (withSeq2 .enabled)) = some (3, 0) ∧
    answer (exec (.position 2 30001) (withSeq2 .closedLoopReady)) = some (2, 0) ∧
    answer (exec (.position 2 (-1)) (withSeq2 .closedLoopReady)) = some (2, 0) := by decide

/-- M20 and M21. -/
theorem test_getposition :
    answer (exec (.getPosition 1) (withBytes (reply10 0x00 0x40))) = some (0, 15000) ∧
    answer (exec (.getPosition 1) (withBytes (reply10 0xFF 0xFF))) = some (0, 60000) ∧
    written (exec (.getPosition 3) (withBytes (reply10 0 0))) = some [0x47, 0x06, 0x01, 0x00, 0x23, 0x01] := by decide

/-- M15 and M17. -/
theorem test_setvolt :
    written (exec (.setVolt 1 37500) State.reset) = some [0x43, 0x06, 0x04, 0x00, 0xA1, 0x01, 0x01, 0x00, 0x00, 0x40] ∧
    written (exec (.setVolt 3 75000) State.reset) = some [0x43, 0x06, 0x04, 0x00, 0xA3, 0x01, 0x01, 0x00, 0xFF, 0x7F] := by
  decide

/-- E9. -/
theorem test_setvolt_errors : answer (exec (.setVolt 2 75001) State.reset) = some (2, 0) ∧
    answer (exec (.setVolt 2 (-1)) State.reset) = some (2, 0) ∧ written (exec (.setVolt 2 (-1)) State.reset) = some [] := by
  decide

/-- M22 and M23. -/
theorem test_getvolt :
    answer (exec (.getVolt 1) (withBytes (reply10 0x6A 0x03))) = some (0, 2000) ∧
    answer (exec (.getVolt 1) (withBytes (reply10 0xFF 0xFF))) = some (0, -3) := by decide

/-- The exact rational of M22. -/
theorem test_getvolt_exact :
    returned (exec (.getVolt 1) (withBytes (reply10 0x6A 0x03))) = some (.ratio ⟨65550000, 32767, by decide⟩) := by decide

/-- P3. -/
theorem test_rampvolt : events (exec (.rampVolt 3 10000 4 50) (withBytes (reply10 0x6A 0x03))) =
    some [.tx [0x44, 0x06, 0x01, 0x00, 0x23, 0x01], .rx 10 (reply10 0x6A 0x03),
      .tx [0x43, 0x06, 0x04, 0x00, 0xA3, 0x01, 0x01, 0x00, 0x6A, 0x03], .wait 50,
      .tx [0x43, 0x06, 0x04, 0x00, 0xA3, 0x01, 0x01, 0x00, 0xD4, 0x06], .wait 50,
      .tx [0x43, 0x06, 0x04, 0x00, 0xA3, 0x01, 0x01, 0x00, 0x3D, 0x0A], .wait 50,
      .tx [0x43, 0x06, 0x04, 0x00, 0xA3, 0x01, 0x01, 0x00, 0xA7, 0x0D], .wait 50,
      .tx [0x43, 0x06, 0x04, 0x00, 0xA3, 0x01, 0x01, 0x00, 0x11, 0x11], .done .nothing] := by decide +kernel

/-- E10, E11, E12. -/
theorem test_rampvolt_errors :
    events (exec (.rampVolt 3 10000 0 50) State.reset) = some [.error .outOfRange] ∧
    events (exec (.rampVolt 3 75001 4 50) State.reset) = some [.error .outOfRange] ∧
    events (exec (.rampVolt 3 10000 4 50) (withBytes (reply10 0xFF 0xFF))) =
      some [.tx [0x44, 0x06, 0x01, 0x00, 0x23, 0x01], .rx 10 (reply10 0xFF 0xFF), .error .outOfRange] := by decide

/-- The start of P4: three readings of 1000. -/
def p4Start : State :=
  { withBytes (reply10 0xE8 3 ++ reply10 0xE8 3 ++ reply10 0xE8 3) with
    seq := ⟨.closedLoopReady, .enabled, .disabled⟩, mode := ⟨.closedLoop, .openLoop, .openLoop⟩ }

/-- P4: 15 frames, 30 bytes read, the registers. -/
theorem test_shutdown :
    (after (exec .shutdown p4Start)).map (fun t => ((txFrames t.history).length, t.rxStream, t.sessionOpen)) =
      some (15, [], false) ∧
    (after (exec .shutdown p4Start)).map (fun t => (t.seq, t.mode)) =
      some (⟨.closedLoopReady, .enabled, .disabled⟩, ⟨.openLoop, .openLoop, .openLoop⟩) := by decide

/-- P4, the variant: the second channel reads -1. -/
theorem test_shutdown_stops_at_a_negative_reading :
    (after (exec .shutdown (withBytes (reply10 0xE8 3 ++ reply10 0xFF 0xFF ++ reply10 0xE8 3)))).map
      (fun t => ((txFrames t.history).length, t.rxStream.length, t.sessionOpen, t.response.map (·.err))) =
    some (7, 10, true, some 2) := by decide

/-- M18 and M19. -/
theorem test_status_queries :
    answer (exec (.getMode 1) (withBytes [0, 0, 0, 2, 0, 0])) = some (0, 2) ∧
    (after (exec (.getMode 1) (withBytes [0, 0, 0, 2, 0, 0]))).map (·.seq) = some ⟨.disabled, .disabled, .disabled⟩ ∧
    answer (exec (.getEnable 1) (withBytes [0, 0, 0, 1, 0, 0])) = some (0, 1) ∧
    written (exec (.getEnable 1) (withBytes [0, 0, 0, 1, 0, 0])) = some [0x11, 0x02, 0x01, 0x00, 0x21, 0x01] := by decide

/-! ### Frames and replies -/

theorem test_frames_write_their_bytes :
    events (exec (.frameZero 1 0 0x23) State.reset) = some [.tx [0x58, 0x06, 0x01, 0x00, 0x23, 0x01]] ∧
    events (exec (.frameSetPos 0x22 1 0 0x006D) State.reset) =
      some [.tx [0x46, 0x06, 0x04, 0x00, 0xA2, 0x01, 0x01, 0x00, 0x6D, 0x00]] ∧
    exec (.frameZero 1 0 0x23) { State.reset with sessionOpen := false } = .refused .sessionClosed ∧
    exec (.frameZero 1 0 0x23) (waiting (.getMode .ch1) []) = .refused .busy := by
  refine ⟨by decide, by decide, rfl, rfl⟩

/-- No other destination, ident byte, payload or negative value (R37, R73). -/
theorem test_unlisted_frames_are_not_sent :
    exec (.frameEnable 1 0x24) State.reset = .refused .frameNotListed ∧
    exec (.frameSetMode 1 5 0x21) State.reset = .refused .frameNotListed ∧
    exec (.frameSetPos 0x7F 0xFF 0xFF 0xFFFF) State.reset = .refused .frameNotListed ∧
    exec (.frameSetVolt 0x21 1 0 0x8000) State.reset = .refused .frameNotListed ∧
    exec (.frameSetVolt 0x21 1 1 5) State.reset = .refused .frameNotListed := by
  refine ⟨rfl, rfl, rfl, rfl, rfl⟩

/-- Five frames of R67, and four that differ from one in a single field. -/
theorem test_block_frames :
    [[0x23, 2, 0, 0, 0x50, 1], [0x10, 2, 1, 2, 0x22, 1], [0x11, 2, 1, 0, 0x23, 1], [0x58, 6, 1, 0, 0x21, 1],
      [0x43, 6, 4, 0, 0xA1, 1, 1, 0, 0xFF, 0x7F]].all (isBlockFrame Config.default) = true ∧
    [[0x23, 2, 0, 0, 0x21, 1], [0x40, 6, 1, 3, 0x50, 1], [0x10, 2, 1, 3, 0x21, 1],
      [0x43, 6, 4, 0, 0xA1, 1, 1, 1, 0, 0]].all (fun f => !isBlockFrame Config.default f) = true := by decide

/-- Six bytes do not end a read of ten; four more do (R45). -/
theorem test_replies_go_by_count :
    (after (exec (.reply6 1 2 3 4 5 6) (waiting (.getPosition .ch1) []))).map (fun t => (t.exchange, t.rxBuf)) =
      some (some (.getPosition .ch1), [1, 2, 3, 4, 5, 6]) ∧
    (after (step { waiting (.getPosition .ch1) [1, 2, 3, 4, 5, 6] with inbox := [.bytes [7, 8, 0x00, 0x40, 9]] })).map
        (fun t => (t.exchange, t.rxStream, t.response.map (·.val))) = some (none, [9], some 15000) := by decide

theorem test_failure_lifts_a_waiting_read :
    events (step { waiting (.pollZero .ch1) [1] with inbox := [.failAccess 0] }) = some [.error .transportFailure] ∧
    step (waiting (.pollZero .ch1) [1]) = .fault .stuckInRxRead := by
  refine ⟨by decide, rfl⟩

/-- A query answered late is an ordinary run; a stuck block and a refusal are not (R179, R203). -/
theorem test_safe_outcomes :
    safeOutcome (exec (.getMode 1) State.reset) = true ∧ safeOutcome (exec (.enable 9) State.reset) = true ∧
    safeOutcome (step (waiting (.getMode .ch1) [])) = false ∧ safeOutcome (exec .reserved0E State.reset) = false :=
  ⟨rfl, rfl, rfl, rfl⟩

/-- A reset ends the read that waits, with its verdict: the next access may fail (R46, R204). -/
theorem test_reset_ends_the_waiting_access :
    (after (step { waiting (.getMode .ch1) [1] with
        inbox := [.reset Config.default], verdicts := [.completes, .fails 2] })).map (fun t => (t.verdicts, t.exchange)) =
      some ([.fails 2], none) ∧
    (after (step { State.reset with inbox := [.reset Config.default], verdicts := [.completes, .fails 2] })).map
      (·.verdicts) = some [.completes, .fails 2] := by decide

/-- R203, and log entry 29 for the first. -/
theorem test_ended_well : endedWell State.reset = false ∧ (after (exec .identify State.reset)).map endedWell = some true ∧
    (after (exec (.getMode 1) State.reset)).map endedWell = some false := ⟨rfl, rfl, rfl⟩

/-! ### Function units (rows K, V, RG) -/

/-- K4. -/
theorem test_encode_short :
    returned (exec (.encodeShort 0x0641 0x01 0x00 0xA1 0x01) State.reset) =
      some (.bytes [0x41, 0x06, 0x01, 0x00, 0xA1, 0x01]) := by decide

set_option maxRecDepth 4000 in
/-- K7 and K8. -/
theorem test_encode_long :
    returned (exec (.encodeLong 0x0646 0xA1 0x01 []) State.reset) = some (.bytes [0x46, 0x06, 0x00, 0x00, 0xA1, 0x01]) ∧
    (encodeLong 0x0001 0 0 (List.replicate 258 0)).toOption.map (·.take 6) = some [0x01, 0x00, 0x02, 0x01, 0x80, 0x00] := by
  decide

/-- K10. -/
theorem test_decode_unit :
    returned (exec (.decodeRaw [0x47, 0x06, 0x04, 0x00, 0x81, 0x21, 0x01, 0x00, 0x00, 0x40]) State.reset) =
      some (.header ⟨0x0647, 0x04, 0x00, 0x81, 0x21, [0x01, 0x00, 0x00, 0x40]⟩) := by decide

/-- K12 and K13. -/
theorem test_int2b1 : ([0, 1, 127, -1, -128].map int2b1).map (·.toOption) = [0x00, 0x01, 0x7F, 0xFF, 0x80].map some ∧
    [128, -129, 161].map (fun v => answer (exec (.int2b1 v) State.reset)) = [some (2, 0), some (2, 0), some (2, 0)] := by
  decide

/-- K14 and K15. -/
theorem test_int2b2 : [16384, 32767, -1, -32768].map (fun v => returned (exec (.int2b2 v) State.reset)) =
      [[0x00, 0x40], [0xFF, 0x7F], [0xFF, 0xFF], [0x00, 0x80]].map (fun bs => some (.bytes bs)) ∧
    [32768, -32769].map (fun v => answer (exec (.int2b2 v) State.reset)) = [some (2, 0), some (2, 0)] := by decide

/-- K16. -/
theorem test_b2u16 : answer (exec (.b2u16 0x00 0x80) State.reset) = some (0, 32768) ∧
    answer (exec (.b2u16 0x00 0x40) State.reset) = some (0, 16384) := by decide

/-- K17. -/
theorem test_b2i16 : answer (exec (.b2i16 0x00 0x80) State.reset) = some (0, -32768) ∧
    answer (exec (.b2i16 0xFF 0x7F) State.reset) = some (0, 32767) := by decide

/-- V7, V8, V11, V13. -/
theorem test_pos2scaled :
    [15000, 15001, 30001, -1].map (fun p => answer (exec (.pos2Scaled p ⟨30000, by decide⟩) State.reset)) =
      [some (0, 16384), some (0, 16385), some (2, 0), some (0, -1)] := by decide

/-- The ties that tell half-to-even from half-up. -/
theorem test_pos2scaled_ties :
    [1, 3, 5, 65533].map (fun p => answer (exec (.pos2Scaled p ⟨65534, by decide⟩) State.reset)) =
      [some (0, 0), some (0, 2), some (0, 2), some (0, 32766)] := by decide

/-- V17, V18, V21, V22. -/
theorem test_scaled2pos :
    [16383, 16384, 32768, 65535].map (fun r => answer (exec (.scaled2Pos r ⟨30000, by decide⟩) State.reset)) =
      [some (0, 14999), some (0, 15000), some (0, 30000), some (0, 60000)] := by decide

/-- V26, V27, V30. -/
theorem test_volt2scaled :
    [37500, 47590, 75001].map
        (fun v => answer (exec (.volt2Scaled ⟨v, 1, by decide⟩ ⟨75000, by decide⟩) State.reset)) =
      [some (0, 16384), some (0, 20792), some (0, 32767)] := by decide

/-- V33, V36, V38: the port value. -/
theorem test_scaled2volt :
    [874, 0xFFFF, 0x8000].map (fun r => answer (exec (.scaled2Volt r ⟨75000, by decide⟩) State.reset)) =
      [some (0, 2000), some (0, -3), some (0, -75003)] := by decide

/-- The value port is `VAL_W` bits wide: what fits is carried as it is (R76). -/
theorem test_value_port_width :
    portInt Config.default 0 .nothing 2147483647 = 2147483647 ∧
    portInt { Config.default with valW := 40 } 0 .nothing 2147483648 = 2147483648 ∧
    fitsSigned 32 2147483648 = false ∧ fitsSigned 32 (-2147483648) = true ∧ portSigned 8 200 = -56 := by
  refine ⟨rfl, rfl, rfl, rfl, rfl⟩

/-- RG1 and RG2. -/
theorem test_bayaddr :
    [1, 2, 3, 0, 4, 255].map (fun ch => answer (exec (.bayAddr ch) State.reset)) =
      [some (0, 0x21), some (0, 0x22), some (0, 0x23), some (1, 0), some (1, 0), some (1, 0)] := by decide

/-- R180. -/
theorem test_reserved_codes : exec .reserved0E State.reset = .refused (.reservedCode 0x0E) ∧
    exec .reserved1F State.reset = .refused (.reservedCode 0x1F) := ⟨rfl, rfl⟩

/-- The status port right after reset (R30, R186). -/
theorem test_status_port : statusPort State.reset = ⟨⟨0, 0, 0⟩, ⟨0, 0, 0⟩, true, 30000, 75000⟩ ∧
    cmdReady State.reset = true ∧ cmdReady (waiting (.getMode .ch1) []) = false := by decide

/-- The last byte of a frame carries the mark (R205). -/
theorem test_tx_signal : txSignal [1, 2, 3] = [(1, false), (2, false), (3, true)] := by decide

/-! ### Witnesses: states and operands that meet the hypotheses of the statements -/

theorem noFailure_of_empty {s : State} (h : s.verdicts = []) : NoFailure s := by
  intro v hv
  rw [h] at hv
  cases hv

/-- The premises of the statements about commands and frames (every statement with `Accepts`, `NoFailure`, an idle open
block, a legal configuration, an empty buffer). -/
theorem witness_ready_block : Accepts State.reset ∧ NoFailure State.reset ∧ configLegal State.reset.config = true ∧
    State.reset.exchange = none ∧ State.reset.sessionOpen = true ∧ State.reset.rxBuf = [] :=
  ⟨⟨rfl, rfl, by decide, by decide⟩, noFailure_of_empty rfl, by decide, rfl, rfl, rfl⟩

/-- A transport that is known to complete its next two accesses meets `NoFailure` too. -/
theorem witness_noFailure_of_listed_verdicts : NoFailure { State.reset with verdicts := [.completes, .completes] } := by
  intro v hv
  simpa using hv

/-- A legal configuration at the ends of its ranges. -/
def edgeConfig : Config :=
  { Config.default with
    posW := 1, valW := 48, maxPos := 1, maxVolt := 0xFFFFFFFFFFFF, chanIdent2 := -128, chanIdent3 := 127, enCode := 127, disCode := -128,
    queryP2 := -1, shutSteps := 1 }

/-- Reset with that configuration. -/
def edgeState : State := { State.reset with config := edgeConfig, cfgMaxPos := 1, cfgMaxVolt := 0xFFFFFFFFFFFF }

theorem witness_edge_configuration : configLegal edgeConfig = true ∧ Accepts edgeState ∧ NoFailure edgeState ∧
    fitsByte edgeConfig.enCode = true ∧ fitsByte edgeConfig.disCode = true ∧ edgeConfig.enCode ≠ edgeConfig.disCode :=
  ⟨by decide, ⟨rfl, rfl, by decide, by decide⟩, noFailure_of_empty rfl, by decide, by decide, by decide⟩

theorem witness_ResetInputLoadsConfiguration :
    (withEvent (.reset edgeConfig)).inbox = [.reset edgeConfig] ∧ configLegal edgeConfig = true ∧
    { waiting (.shutdown .ch2) [1] with inbox := [.reset { edgeConfig with maxPos := 0 }] }.inbox =
      [.reset { edgeConfig with maxPos := 0 }] ∧ configLegal { edgeConfig with maxPos := 0 } = false ∧
    (waiting (.shutdown .ch2) [1]).exchange ≠ none ∧ (withEvent (.reset edgeConfig)).exchange = none ∧
    configLegal { edgeConfig with maxPos := 2 } = false ∧ configLegal { edgeConfig with chanIdent2 := 128 } = false := by
  refine ⟨rfl, by decide, rfl, by decide, by decide, rfl, by decide, by decide⟩

theorem witness_StepRunsDecodedInstruction :
    (withEvent (.instr (.command (.bare 0x00)))).inbox = [.instr (.command (.bare 0x00))] ∧
    decode State.reset.config (.command (.bare 0x00)) = .ok .identify ∧
    (withEvent (.instr (.fromDevice []))).inbox = [.instr (.fromDevice [])] ∧
    decode State.reset.config (.fromDevice []) = .error .replyLength := ⟨rfl, rfl, rfl, rfl⟩

theorem witness_HangsAndWhatLiftsThem :
    State.reset.inbox = [] ∧ State.reset.exchange = none ∧
    (waiting (.getVolt .ch3) []).inbox = [] ∧ (waiting (.getVolt .ch3) []).exchange = some (.getVolt .ch3) ∧
    { waiting (.getVolt .ch3) [] with inbox := [.failAccess 3] }.inbox = [.failAccess 3] ∧
    (withEvent (.failAccess 0)).inbox = [.failAccess 0] ∧ (withEvent (.failAccess 0)).exchange = none :=
  ⟨rfl, rfl, rfl, rfl, rfl, rfl, rfl⟩

/-- The widest operands the ports carry, at both ends. -/
theorem witness_DecodeEncodeAgree :
    (Instr.frameSetPos 0x23 0xFF 0 0x7FFF).wellFormed = true ∧ (Instr.decodeRaw [0, 0, 0, 0, 0, 0]).wellFormed = true ∧
    (Instr.rampVolt 255 (-2147483648) 0xFFFF 0xFFFFFFFF).wellFormed = true ∧
    (Instr.rampVolt 255 (-2147483648) 0xFFFF 0xFFFFFFFF).presentable Config.default = true ∧
    (Instr.setVolt 255 2147483647).presentable Config.default = true ∧
    (Instr.position 1 2147483647).presentable Config.default = true ∧
    (Instr.position 1 2147483648).presentable Config.default = false ∧
    (Instr.setMode 1 true).presentable Config.default = true ∧
    fitsByte Config.default.enCode = true ∧ fitsByte Config.default.disCode = true ∧
    Config.default.enCode ≠ Config.default.disCode := by decide

theorem witness_WireFramesEncodeBack :
    decode Config.default (.toDevice [0x46, 0x06, 0x04, 0x00, 0xFF, 0x01, 0xFF, 0xFF, 0xFF, 0xFF]) =
      .ok (.frameSetPos 0x7F 0xFF 0xFF 0xFFFF) ∧
    decode Config.default (.fromDevice [0, 0, 0, 0, 0, 0xFF]) = .ok (.reply6 0 0 0 0 0 0xFF) := ⟨rfl, rfl⟩

/-- ShortFramesAreWritten and LongFramesAreWritten need a ready block (above) and a value at most this. -/
theorem witness_LongFramesAreWritten : (0 : Word16).toNat ≤ 32767 ∧ (0x7FFF : Word16).toNat ≤ 32767 := by decide

theorem witness_FrameWritesFailOrAreRefused :
    encode Config.default (.frameZero 1 0 0x21) = .toDevice [0x58, 0x06, 0x01, 0x00, 0x21, 0x01] ∧
    isBlockFrame Config.default [0x58, 0x06, 0x01, 0x00, 0x21, 0x01] = true ∧
    { State.reset with verdicts := [.fails 6] }.verdicts = [.fails 6] ∧
    encode Config.default (.frameZero 1 0 0x24) = .toDevice [0x58, 0x06, 0x01, 0x00, 0x24, 0x01] ∧
    isBlockFrame Config.default [0x58, 0x06, 0x01, 0x00, 0x24, 0x01] = false ∧
    (waiting (.getMode .ch1) []).exchange ≠ none ∧
    { State.reset with sessionOpen := false }.sessionOpen = false := by
  refine ⟨rfl, rfl, rfl, rfl, rfl, by decide, rfl⟩

theorem witness_UnaskedRepliesWaitInTheStream :
    encode State.reset.config (.reply6 1 2 3 4 5 6) = .fromDevice [1, 2, 3, 4, 5, 6] ∧
    encode State.reset.config (.reply10 1 2 3 4 5 6 7 8 9 10) = .fromDevice [1, 2, 3, 4, 5, 6, 7, 8, 9, 10] ∧
    State.reset.exchange = none := ⟨rfl, rfl, rfl⟩

theorem witness_RepliesAnswerStatusQueries :
    NoFailure (waiting (.pollZero .ch1) [1, 2, 3]) ∧
    encode Config.default (.reply6 2 0 0 0 0 0) = .fromDevice [2, 0, 0, 0, 0, 0] ∧
    (waiting (.getMode .ch1) []).exchange = some (.getMode .ch1) ∧
    (waiting (.getEnable .ch2) []).exchange = some (.getEnable .ch2) ∧
    (waiting (.pollZero .ch1) [1, 2, 3]).exchange = some (.pollZero .ch1) ∧
    ([1, 2, 3] ++ [] ++ [2, 0, 0, 0, 0, 0] : List Byte).getD 3 0 = 0x02 ∧
    ([] ++ [] ++ [2, 0, 0, 0, 0, 0] : List Byte).getD 3 0 ≠ 0x02 := by
  refine ⟨noFailure_of_empty rfl, rfl, rfl, rfl, rfl, by decide, by decide⟩

theorem witness_RepliesAnswerValueQueries :
    NoFailure (waiting (.getVolt .ch1) [1, 2, 3, 4]) ∧
    encode Config.default (.reply6 2 0 0 0 0 0) = .fromDevice [2, 0, 0, 0, 0, 0] ∧
    (waiting (.getVolt .ch1) [1, 2, 3, 4]).exchange = some (.getVolt .ch1) ∧
    (waiting (.getPosition .ch1) [1, 2, 3, 4]).exchange = some (.getPosition .ch1) ∧
    10 ≤ ([1, 2, 3, 4] ++ [] ++ [2, 0, 0, 0, 0, 0] : List Byte).length ∧
    replyLen (.shutdown .ch3) = 10 ∧ (waiting (.shutdown .ch3) [1, 2, 3]).exchange = some (.shutdown .ch3) ∧
    ([1, 2, 3] ++ [] ++ [2, 0, 0, 0, 0, 0] : List Byte).length < 10 := by
  refine ⟨noFailure_of_empty rfl, rfl, rfl, rfl, by decide, rfl, rfl, by decide⟩

/-- Both clauses of ENCODE_LONG and of DECODE, at their ends. -/
theorem witness_FrameEncoders_DecodeReturnsTheFields :
    (List.replicate 65535 (0 : Byte)).length ≤ 65535 ∧ ¬ (List.replicate 65536 (0 : Byte)).length ≤ 65535 ∧
    ([1, 2, 3, 4, 5] : List Byte).length < 6 := by
  rw [List.length_replicate, List.length_replicate]
  decide

theorem witness_CodecLaws :
    encodeLong 0x0646 0x21 0x01 [] = .ok [0x46, 0x06, 0x00, 0x00, 0xA1, 0x01] ∧
    int2b2 (-32768) = .ok [0x00, 0x80] ∧ int2b2 32767 = .ok [0xFF, 0x7F] ∧ int2b2 0 = .ok [0, 0] := by
  refine ⟨rfl, rfl, rfl, rfl⟩

/-- PositionToScaled, ScaledToPosition, VoltageToScaled, ScaledToVoltage: the block is idle and open, the tie rule the
spec's; both outcomes of the range check occur, at their ends. -/
theorem witness_scaler_units : State.reset.exchange = none ∧ State.reset.sessionOpen = true ∧
    State.reset.config.tie = .halfEven ∧
    posToScaled .halfEven 32767 32767 = .ok 32767 ∧ posToScaled .halfEven 32768 32767 = .error .outOfRange ∧
    posToScaled .halfEven (-32768) 32767 = .ok (-32768) ∧ posToScaled .halfEven (-32769) 32767 = .error .outOfRange ∧
    voltToScaled .halfEven 32768 1 32767 = .error .outOfRange := by
  refine ⟨rfl, rfl, rfl, rfl, rfl, rfl, rfl, rfl⟩

/-- RoundHalfToEven: the three cases occur. -/
theorem witness_RoundHalfToEven : ((5 : ℚ) / 4 - 1 < 1 / 2) ∧ ((1 : ℚ) / 2 < 7 / 4 - 1) ∧ ((3 : ℚ) / 2 - 1 = 1 / 2) ∧
    0 < 4 := by
  norm_num

theorem witness_ScalerLaws : (0 : Nat) < 1 ∧ (0 : Int) ≤ 1 ∧ (1 : Int) ≤ (1 : Nat) ∧ (-1 : Int) < 0 ∧
    ((1 : Int) : ℚ) / (3 : Nat) ≤ ((1 : Int) : ℚ) / (2 : Nat) ∧
    posToScaled .halfUp (-30) 30 = .ok (-32767) ∧ posToScaled .halfAway 30 30 = .ok 32767 ∧
    0 ≤ (⟨75000, 1, by decide⟩ : Ratio).num ∧ ((75000 : Int) : ℚ) / (1 : Nat) ≤ (75000 : Nat) ∧
    voltToScaled .halfUp 1 3 1 = .ok 10922 ∧ voltToScaled .halfUp 1 2 1 = .ok 16384 := by
  refine ⟨by decide, by decide, by decide, by decide, by norm_num, rfl, rfl, by decide, by norm_num, rfl, rfl⟩

theorem witness_round_trips : 0 < 100000 ∧ (0 : Int) ≤ 100000 ∧ (100000 : Int) ≤ (100000 : Nat) ∧ (0 : Int) ≤ 30000 ∧
    (30000 : Int) ≤ 30000 ∧ 0 ≤ (⟨75000, 1, by decide⟩ : Ratio).num ∧ ((75000 : ℚ) / 1 ≤ (75000 : Nat)) := by
  refine ⟨by decide, by decide, by decide, by decide, by decide, by decide, by norm_num⟩

/-- Both ends of a ramp's index and of its reading. -/
theorem witness_RampSetPointClosedForm : 0 < 75000 ∧ 0 < 4 ∧ 0 ≤ 4 ∧ 4 ≤ 4 ∧ (0 : Int) ≤ 32767 ∧
    (32767 : Int) ≤ 32767 := by decide

/-- Enough bytes for the queries; too few by one. -/
theorem witness_reply_bytes :
    6 ≤ (withBytes [1, 2, 3, 4, 5, 6]).rxStream.length ∧ (withBytes [1, 2, 3, 4, 5]).rxStream.length < 6 ∧
    10 ≤ (withBytes (reply10 0 0)).rxStream.length ∧ (withBytes [1, 2, 3, 4, 5, 6, 7, 8, 9]).rxStream.length < 10 ∧
    Accepts (withBytes (reply10 0 0)) ∧ NoFailure (withBytes (reply10 0 0)) ∧
    configLegal (withBytes (reply10 0 0)).config = true ∧ (withBytes (reply10 0 0)).rxBuf = [] := by
  refine ⟨by decide, by decide, by decide, by decide, ⟨rfl, rfl, by decide, by decide⟩, noFailure_of_empty rfl,
    by decide, rfl⟩

/-- QueriesWaitForTheirReply: a ramp's operands; a SHUTDOWN with one reply and with two. -/
theorem witness_QueriesWaitForTheirReply : (1 : Word16) ≠ 0 ∧ (0 : Int) ≤ 0 ∧ (0 : Int) ≤ State.reset.cfgMaxVolt ∧
    10 ≤ (withBytes (reply10 0 0)).rxStream.length ∧ (withBytes (reply10 0 0 ++ [1, 2, 3])).rxStream.length < 20 ∧
    0 ≤ readingOf (withBytes (reply10 0 0)).rxStream ∧ 20 ≤ (withBytes (reply10 0 0 ++ reply10 0 1)).rxStream.length ∧
    (withBytes (reply10 0 0 ++ reply10 0 1)).rxStream.length < 30 ∧
    0 ≤ readingOf ((withBytes (reply10 0 0 ++ reply10 0 1)).rxStream.drop 10) := by decide

/-- The port clause of GetVoltReturnsTheRational: M22's reading, and the least there is. -/
theorem witness_GetVoltReturnsTheRational : State.reset.config.qv = .floor ∧
    fitsSigned State.reset.config.valW ⌊(874 : ℚ) * 75000 / 32767⌋ = true ∧
    fitsSigned State.reset.config.valW ⌊(-32768 : ℚ) * 75000 / 32767⌋ = true := by
  refine ⟨rfl, ?_, ?_⟩ <;> norm_num [fitsSigned, State.reset, Config.default]

/-- PositionMovesAReadyChannel and PositionIsRefusedWithAnError, at both ends of the range. -/
theorem witness_Position : Accepts (withSeq2 .closedLoopReady) ∧ NoFailure (withSeq2 .closedLoopReady) ∧
    (withSeq2 .closedLoopReady).seq.get .ch2 = .closedLoopReady ∧ (withSeq2 .zeroRequested).seq.get .ch2 ≠ .closedLoopReady ∧
    (0 : Int) ≤ 0 ∧ (30000 : Int) ≤ (withSeq2 .closedLoopReady).cfgMaxPos ∧
    (30001 : Int) > (withSeq2 .closedLoopReady).cfgMaxPos ∧ (-1 : Int) < 0 := by
  refine ⟨⟨rfl, rfl, by decide, by decide⟩, noFailure_of_empty rfl, by decide, by decide, by decide, by decide, by decide,
    by decide⟩

theorem witness_SetVoltScalesOrRejects : (0 : Int) ≤ 0 ∧ (75000 : Int) ≤ State.reset.cfgMaxVolt ∧
    (75001 : Int) > State.reset.cfgMaxVolt ∧ (-1 : Int) < 0 := by decide

/-- RampWritesEverySetPoint and RampRejectsBeforeSetPoints. -/
theorem witness_Ramp : Accepts (withBytes (reply10 0x6A 0x03)) ∧ NoFailure (withBytes (reply10 0x6A 0x03)) ∧
    10 ≤ (withBytes (reply10 0x6A 0x03)).rxStream.length ∧ (1 : Word16) ≠ 0 ∧ (0 : Int) ≤ 75000 ∧
    (75000 : Int) ≤ (withBytes (reply10 0x6A 0x03)).cfgMaxVolt ∧
    0 ≤ readingOf (withBytes (reply10 0 0)).rxStream ∧ 0 ≤ readingOf (withBytes (reply10 0xFF 0x7F)).rxStream ∧
    readingOf (withBytes (reply10 0xFF 0xFF)).rxStream < 0 ∧ readingOf (withBytes (reply10 0 0x80)).rxStream < 0 := by
  refine ⟨⟨rfl, rfl, by decide, by decide⟩, noFailure_of_empty rfl, by decide, by decide, by decide, by decide, by decide,
    by decide, by decide, by decide⟩

/-- Three readings, the one at each place negative in turn. -/
theorem witness_ShutdownRampsAndCloses : Accepts p4Start ∧ NoFailure p4Start ∧ configLegal p4Start.config = true ∧
    p4Start.rxBuf = [] ∧ 30 ≤ p4Start.rxStream.length ∧ 0 ≤ readingOf (p4Start.rxStream.take 10) ∧
    0 ≤ readingOf ((p4Start.rxStream.drop 10).take 10) ∧ 0 ≤ readingOf ((p4Start.rxStream.drop 20).take 10) ∧
    readingOf ((withBytes (reply10 0xFF 0xFF)).rxStream.take 10) < 0 ∧
    readingOf (((withBytes (reply10 0 0 ++ reply10 0 0x80)).rxStream.drop 10).take 10) < 0 ∧
    readingOf (((withBytes (reply10 0 0 ++ reply10 0 0 ++ reply10 0xFF 0xFF)).rxStream.drop 20).take 10) < 0 := by
  refine ⟨⟨rfl, rfl, by decide, by decide⟩, noFailure_of_empty rfl, by decide, rfl, by decide, by decide, by decide,
    by decide, by decide, by decide, by decide⟩

/-- The transport's verdicts of ShutdownRampsAndCloses: eighteen accesses, then `Close` fails. -/
def closeFails : State := { p4Start with verdicts := List.replicate 18 .completes ++ [.fails 0] }

theorem witness_ShutdownRampsAndCloses_close : Accepts closeFails ∧
    closeFails.verdicts = List.replicate (3 * (closeFails.config.shutSteps.toNat + 4)) .completes ++ .fails 0 :: [] ∧
    (after (exec .shutdown closeFails)).map (fun t => (t.response.map (·.err), t.sessionOpen, (txFrames t.history).length))
      = some (some 4, true, 15) := by
  refine ⟨⟨rfl, rfl, by decide, by decide⟩, by decide, by decide⟩

theorem witness_InvalidChannelComesFirst : Accepts State.reset ∧ channelOperand (.position 0 5) = some 0 ∧
    channelOperand (.getMode 4) = some 4 ∧ channelOperand (.rampVolt 255 0 0 0) = some 255 ∧ (0 : Byte) ≠ 1 ∧
    (4 : Byte) ≠ 3 ∧ (255 : Byte) ≠ 2 :=
  ⟨⟨rfl, rfl, by decide, by decide⟩, rfl, rfl, rfl, by decide, by decide, by decide⟩

/-- Each of the fourteen commands has a first frame (POSITION in a ready channel). -/
theorem witness_firstFrame :
    [Instr.identify, .enable 1, .disable 1, .setMode 1 true, .zero 1, .pollZero 1, .position 2 30000, .getPosition 1,
      .setVolt 1 75000, .getVolt 1, .rampVolt 1 0 1 0, .shutdown, .getMode 1, .getEnable 1].all
      (fun i => (firstFrame (withSeq2 .closedLoopReady) i).isSome) = true ∧
    [Instr.pollZero 1, .getPosition 1, .getVolt 1, .rampVolt 1 0 1 0, .getMode 1, .getEnable 1].all readsReply = true := by
  decide

theorem witness_FailedWritesSkipTheRegister :
    Accepts { State.reset with verdicts := [.fails 0] } ∧ configLegal State.reset.config = true ∧
    { State.reset with verdicts := [.fails 0] }.verdicts = .fails 0 :: [] ∧
    Accepts { State.reset with verdicts := [.completes, .fails 6] } ∧
    { State.reset with verdicts := [.completes, .fails 6] }.verdicts = .completes :: .fails 6 :: [] ∧
    { State.reset with verdicts := [.completes, .completes, .fails 6] }.verdicts =
      .completes :: .completes :: .fails 6 :: [] :=
  ⟨⟨rfl, rfl, by decide, by decide⟩, by decide, rfl, ⟨rfl, rfl, by decide, by decide⟩, rfl, rfl⟩

/-- The ramp clause, at the first and the last set-point. -/
theorem witness_FailedWritesSkipTheRegister_ramp : (0 : Nat) ≤ (4 : Word16).toNat ∧ 4 ≤ (4 : Word16).toNat ∧
    (4 : Word16) ≠ 0 ∧ (withBytes (reply10 0x6A 0x03)).rxBuf = [] ∧ 10 ≤ (withBytes (reply10 0x6A 0x03)).rxStream.length ∧
    { withBytes (reply10 0x6A 0x03) with verdicts := [.completes, .completes, .fails 9] }.verdicts =
      List.replicate (2 + 0) .completes ++ .fails 9 :: [] ∧
    { withBytes (reply10 0x6A 0x03) with verdicts := List.replicate 6 Verdict.completes ++ [Verdict.fails 9] }.verdicts =
      List.replicate (2 + 4) .completes ++ .fails 9 :: [] := by
  refine ⟨by decide, by decide, by decide, rfl, by decide, rfl, rfl⟩

/-- The value clauses of ResponseRecord: both bytes at their ends, an integer, a rational. -/
theorem witness_ResponseRecord : fitsSigned State.reset.config.valW 1 = true ∧
    fitsSigned State.reset.config.valW ((0xFF : Byte).toNat : Int) = true ∧
    fitsSigned State.reset.config.valW (-2147483648) = true ∧ State.reset.config.qv = .floor ∧
    fitsSigned State.reset.config.valW ⌊((-1 : Int) : ℚ) / (2 : Nat)⌋ = true := by
  refine ⟨by decide, by decide, by decide, rfl, ?_⟩
  norm_num [fitsSigned, State.reset, Config.default]

theorem witness_NothingStartsWhenBusyOrClosed :
    onCommandPort .identify = true ∧ onCommandPort (.b2i16 0 0) = true ∧ onCommandPort (.getEnable 9) = true ∧
    (Instr.decodeRaw [0, 0, 0, 0, 0, 0]).wellFormed = true ∧ (waiting (.getMode .ch1) []).exchange ≠ none ∧
    { State.reset with sessionOpen := false }.exchange = none := by decide

/-- WriteTableOfTheRegisters, ModeDecidesNothing, WireFollowsTheHistory, ReceivedBytesAreConserved,
ExactlyOneReportPerCommand: an instruction that answers a next state and writes none, one or the other register. -/
theorem witness_next_states :
    (∃ t, exec .identify State.reset = .next t) ∧ (∃ t, exec (.enable 1) State.reset = .next t) ∧
    (∃ t, exec (.setMode 1 true) State.reset = .next t) ∧ (∃ t, exec (.getMode 1) State.reset = .next t) ∧
    writesSeq State.reset .identify = false ∧ writesMode State.reset (.enable 1) = false ∧
    isShutdown State.reset (.setMode 1 true) = false ∧ onCommandPort (.getMode 1) = true :=
  ⟨⟨_, rfl⟩, ⟨_, rfl⟩, ⟨_, rfl⟩, ⟨_, rfl⟩, rfl, rfl, rfl, rfl⟩

theorem witness_ChannelsAreIndependent : channelOperand (.zero 1) = some (chanByte .ch1) ∧ Chan.ch2 ≠ .ch1 ∧
    ∃ t, exec (.zero 1) State.reset = .next t := ⟨rfl, by decide, ⟨_, rfl⟩⟩

/-- SequencerTransitions: one run of each clause that ends with its result. -/
theorem witness_SequencerTransitions :
    (∃ t, exec (.enable (chanByte .ch1)) State.reset = .next t ∧ t.history.getLast? = some (.done .nothing)) ∧
    (∃ t, exec (.disable (chanByte .ch1)) State.reset = .next t ∧ t.history.getLast? = some (.done .nothing)) ∧
    (∃ t, exec (.setMode (chanByte .ch1) true) State.reset = .next t ∧ t.history.getLast? = some (.done .nothing)) ∧
    (∃ t, exec (.zero (chanByte .ch1)) State.reset = .next t ∧ t.history.getLast? = some (.done .nothing)) ∧
    (∃ t, exec (.pollZero (chanByte .ch1)) (withBytes [0, 0, 0, 2, 0, 0]) = .next t ∧
      t.history.getLast? = some (.done (.bool true))) ∧
    (∃ t, exec (.position (chanByte .ch2) 0) (withSeq2 .closedLoopReady) = .next t ∧
      t.history.getLast? = some (.done .nothing)) ∧
    (∃ t, exec (.setVolt (chanByte .ch1) 0) State.reset = .next t ∧ t.history.getLast? = some (.done .nothing)) ∧
    (∃ t, exec (.getMode (chanByte .ch1)) (withBytes [0, 0, 0, 2, 0, 0]) = .next t ∧
      t.history.getLast? = some (.done (.byte 2))) := by
  and_intros <;> exact ⟨_, rfl, by decide⟩

theorem witness_LateBytesMakeNoDifference : onCommandPort (.getMode 1) = true ∧ State.reset.rxBuf = [] ∧
    ∃ t, exec (.getMode 1) State.reset = .next t ∧ t.exchange = some (.getMode .ch1) := ⟨rfl, rfl, ⟨_, rfl, rfl⟩⟩

theorem witness_OnlyListedFramesAreSent :
    onlyBlockFrames (withEvent (.instr (.command (.bare 0x00)))) = true ∧
    ∃ t, step (withEvent (.instr (.command (.bare 0x00)))) = .next t ∧ (txFrames t.history).length = 1 :=
  ⟨rfl, ⟨_, rfl, rfl⟩⟩

/-- ReadyOnlyByATruePoll: a poll at the port, and one that waited. -/
theorem witness_ReadyOnlyByATruePoll :
    (∃ t, step { withBytes [0, 0, 0, 2, 0, 0] with inbox := [.instr (.command (.onChan 0x05 1))] } = .next t ∧
      t.seq.get .ch1 = .closedLoopReady) ∧
    (∃ t, step { waiting (.pollZero .ch1) [0, 0, 0] with inbox := [.bytes [2, 0, 0]] } = .next t ∧
      t.seq.get .ch1 = .closedLoopReady) ∧
    State.reset.seq.get .ch1 ≠ .closedLoopReady :=
  ⟨⟨_, rfl, rfl⟩, ⟨_, rfl, rfl⟩, by decide⟩

/-- StepKeepsConsistent: a step from an idle block; and a waiting block that is consistent too. -/
theorem witness_StepKeepsConsistent : Consistent State.reset ∧ (∃ t, step State.reset = .next t) ∧
    Consistent { waiting (.ramp .ch1 75000 1 0) [1, 2, 3, 4, 5, 6, 7, 8, 9] with inbox := [.bytes [1]] } ∧
    ∃ t, step { waiting (.ramp .ch1 75000 1 0) [1, 2, 3, 4, 5, 6, 7, 8, 9] with inbox := [.bytes [1]] } = .next t := by
  refine ⟨⟨by decide, rfl, rfl, fun _ => rfl, fun x h => (by cases h)⟩, ⟨_, rfl⟩,
    ⟨by decide, rfl, rfl, fun h => (by cases h), fun x h => ?_⟩, ⟨_, rfl⟩⟩
  cases h
  refine ⟨by decide, rfl, rfl, rfl, by decide, by decide, by decide⟩

end Sys2Proof.Tests
end

section
/-! SUPPORT. Decoding what the encoder writes, one lemma for each port an instruction stands at (spec 30_encoding R60,
R67, R76 to R78). -/

namespace Sys2Proof.Machine

/-- The low bit of an integer survives any port of at least one bit: SETMODE reads its operand from it (R77). -/
theorem portSigned_emod_two {w : Nat} (h : 1 ≤ w) (v : Int) : portSigned w v % 2 = v % 2 := by
  have hd : (2 : Int) ∣ ((2 ^ w : Nat) : Int) := by
    push_cast
    exact dvd_pow_self 2 (by omega)
  rw [portSigned, ← Int.emod_emod_of_dvd _ hd, Int.bmod_emod, Int.emod_emod_of_dvd _ hd]

@[simp] theorem decode_encodeShort (cfg : Config) (opcode : Word16) (p1 p2 dest src : Byte) :
    decode cfg (.toDevice (encodeShort opcode p1 p2 dest src)) = decodeShort cfg opcode p1 p2 dest src := by
  rw [encodeShort, decode, word16_lo_hi]

@[simp] theorem decode_longBytes (cfg : Config) (opcode : Word16) (dest : BitVec 7) (ci hiByte : Byte) (value : Word16) :
    decode cfg (.toDevice (longBytes opcode dest ci hiByte value)) =
      decodeLong opcode 4 (longDest dest) hostAddr ci hiByte (lo value) (hi value) := by
  have hlen : word16 4#8 0#8 = 4#16 := by decide
  simp [longBytes, decode, hlen]

/-- A channel's short frame, ENABLE and DISABLE aside, is told by its opcode (R67). -/
theorem decodeShort_of_opcode (cfg : Config) (p1 p2 : Byte) (d : BitVec 7) :
    decodeShort cfg opQueryEnable p1 p2 (shortDest d) hostAddr = .ok (.frameReqEnable p1 p2 d) ∧
    decodeShort cfg opSetMode p1 p2 (shortDest d) hostAddr = .ok (.frameSetMode p1 p2 d) ∧
    decodeShort cfg opQueryMode p1 p2 (shortDest d) hostAddr = .ok (.frameReqMode p1 p2 d) ∧
    decodeShort cfg opQueryVoltage p1 p2 (shortDest d) hostAddr = .ok (.frameReqVolt p1 p2 d) ∧
    decodeShort cfg opQueryPosition p1 p2 (shortDest d) hostAddr = .ok (.frameReqPos p1 p2 d) ∧
    decodeShort cfg opZero p1 p2 (shortDest d) hostAddr = .ok (.frameZero p1 p2 d) := by
  and_intros <;> simp [decodeShort, opIdentify, opEnable, opQueryEnable, opSetMode, opQueryMode, opQueryVoltage,
    opQueryPosition, opZero]

theorem decodeShort_identify (cfg : Config) (p1 p2 : Byte) :
    decodeShort cfg opIdentify p1 p2 controllerAddr hostAddr = .ok (.frameIdentify p1 p2) := by
  have hshort : isLongDest controllerAddr = false := by decide
  simp [decodeShort, hshort]

/-- ENABLE and DISABLE share an opcode; the second parameter decides (R70). -/
theorem decodeShort_enable (cfg : Config) (p1 p2 : Byte) (d : BitVec 7) :
    decodeShort cfg opEnable p1 p2 (shortDest d) hostAddr =
      if p2 == tc8 cfg.enCode then .ok (.frameEnable p1 d)
      else if p2 == tc8 cfg.disCode then .ok (.frameDisable p1 d)
      else .error .unknownFrame := by
  simp [decodeShort, opIdentify, opEnable]

theorem decodeLong_setVolt (d : BitVec 7) (ci hiByte : Byte) (value : Word16) :
    decodeLong opSetVoltage 4 (longDest d) hostAddr ci hiByte (lo value) (hi value) =
      .ok (.frameSetVolt d ci hiByte value) := by
  simp [decodeLong]

theorem decodeLong_setPos (d : BitVec 7) (ci hiByte : Byte) (value : Word16) :
    decodeLong opSetPosition 4 (longDest d) hostAddr ci hiByte (lo value) (hi value) =
      .ok (.frameSetPos d ci hiByte value) := by
  simp [decodeLong, opSetPosition, opSetVoltage]

/-- A frame to the device decodes to the instruction that wrote it, where the two codes of R70 are different bytes. -/
theorem decode_of_encode_toDevice {cfg : Config} {i : Instr} {bs : List Byte} (hne : tc8 cfg.disCode ≠ tc8 cfg.enCode)
    (h : encode cfg i = .toDevice bs) : decode cfg (.toDevice bs) = .ok i := by
  cases i with
  | frameIdentify p1 p2 => cases h; rw [decode_encodeShort, decodeShort_identify]
  | frameEnable ci d => cases h; simp [decodeShort_enable]
  | frameDisable ci d => cases h; simp [decodeShort_enable, hne]
  | frameReqEnable ci p2 d | frameSetMode ci p2 d | frameReqMode ci p2 d | frameReqVolt ci p2 d | frameReqPos ci p2 d
  | frameZero ci p2 d => cases h; simp [decodeShort_of_opcode]
  | frameSetVolt d ci hiByte v => cases h; rw [decode_longBytes, decodeLong_setVolt]
  | frameSetPos d ci hiByte v => cases h; rw [decode_longBytes, decodeLong_setPos]
  | _ => cases h

/-- Six or ten bytes from the device are the reply they are, whatever they hold (R72, R74). -/
theorem decode_of_encode_fromDevice {cfg : Config} {i : Instr} {bs : List Byte} (h : encode cfg i = .fromDevice bs) :
    decode cfg (.fromDevice bs) = .ok i := by
  cases i with
  | reply6 | reply10 => cases h; rfl
  | _ => cases h

/-- A command record decodes to the instruction it was made for: the select code picks the constructor, and the ports
carry the operands that fit them (R76 to R78). -/
theorem decodeCommand_of_encode {cfg : Config} {i : Instr} {r : CmdRecord} (hp : i.presentable cfg = true)
    (h : encode cfg i = .command r) : decodeCommand cfg r = i := by
  cases i with
  | setMode ch closed =>
    have hw : 1 ≤ cfg.valW := of_decide_eq_true hp
    cases h
    have hbit : (portSigned cfg.valW (if closed then 1 else 0) % 2 == 1) = closed := by
      rw [portSigned_emod_two hw]
      cases closed <;> rfl
    exact congrArg (Instr.setMode ch) hbit
  | position ch pos =>
    obtain ⟨hval, hpos⟩ := Bool.and_eq_true_iff.1 hp
    cases h
    have hport : portSigned cfg.posW (portSigned cfg.valW pos) = pos := by
      rw [portSigned_of_fits hval, portSigned_of_fits hpos]
    exact congrArg (Instr.position ch) hport
  | setVolt ch volts =>
    cases h
    exact congrArg (Instr.setVolt ch) (portSigned_of_fits hp)
  | rampVolt ch target steps delayMs =>
    cases h
    exact congrArg (Instr.rampVolt ch · steps delayMs) (portSigned_of_fits hp)
  | _ => cases h <;> rfl

/-- Settles O5: each port has its lemma, and two codes that fit the signed byte and differ give different bytes (R64). -/
theorem decodeEncodeAgree : Obligations.DecodeEncodeAgree := by
  intro cfg i hen hdis hne _ hp
  have hcodes : tc8 cfg.disCode ≠ tc8 cfg.enCode := fun h => hne (tc8_injective hdis hen h).symm
  cases e : encode cfg i with
  | toDevice bs => exact decode_of_encode_toDevice hcodes e
  | fromDevice bs => exact decode_of_encode_fromDevice e
  | command r => exact congrArg Except.ok (decodeCommand_of_encode hp e)

end Sys2Proof.Machine
end

section
/-! SUPPORT. One step of the block, one lemma for each kind of event at its ports that the proofs here use (spec
00_scope R8, R18). -/

namespace Sys2Proof.Machine

theorem step_of_decode_ok {s : State} {w : Encoded} {rest : List PortEvent} {i : Instr}
    (h : s.inbox = .instr w :: rest) (hd : decode s.config w = .ok i) : step s = exec i (s.setInbox rest) := by
  simp only [step, h, hd]

theorem step_of_decode_error {s : State} {w : Encoded} {rest : List PortEvent} {e : DecodeError}
    (h : s.inbox = .instr w :: rest) (hd : decode s.config w = .error e) : step s = .refused (.undecodable e) := by
  simp only [step, h, hd]

theorem step_of_bytes {s : State} {bs : List Byte} {rest : List PortEvent} (h : s.inbox = .bytes bs :: rest) :
    step s = arrive bs (s.setInbox rest) := by
  simp only [step, h]

/-- Settles O3: the two outcomes of the decoder. -/
theorem stepRunsDecodedInstruction : Obligations.StepRunsDecodedInstruction := by
  intro s w rest h
  exact ⟨fun i hd => step_of_decode_ok h hd, fun e hd => step_of_decode_error h hd⟩

end Sys2Proof.Machine
end

section
/-! SUPPORT. Bytes that come late (spec 20_memory R45, R48; 60_exceptions R179): the pseudocode of a command, run once as
it is and once with further bytes in the receive stream, side by side. -/

namespace Sys2Proof.Machine

open Safety

/-- The same block with `bs` behind what the device has sent so far. -/
def State.feed (s : State) (bs : List Byte) : State := s.setRx s.exchange s.rxBuf (s.rxStream ++ bs)

@[simp] theorem State.feed_config (s : State) (bs : List Byte) : (s.feed bs).config = s.config := rfl
@[simp] theorem State.feed_seq (s : State) (bs : List Byte) : (s.feed bs).seq = s.seq := rfl
@[simp] theorem State.feed_cfgMaxPos (s : State) (bs : List Byte) : (s.feed bs).cfgMaxPos = s.cfgMaxPos := rfl
@[simp] theorem State.feed_cfgMaxVolt (s : State) (bs : List Byte) : (s.feed bs).cfgMaxVolt = s.cfgMaxVolt := rfl
@[simp] theorem State.feed_exchange (s : State) (bs : List Byte) : (s.feed bs).exchange = s.exchange := rfl
@[simp] theorem State.feed_rxBuf (s : State) (bs : List Byte) : (s.feed bs).rxBuf = s.rxBuf := rfl
@[simp] theorem State.feed_rxStream (s : State) (bs : List Byte) : (s.feed bs).rxStream = s.rxStream ++ bs := rfl
@[simp] theorem State.feed_verdicts (s : State) (bs : List Byte) : (s.feed bs).verdicts = s.verdicts := rfl

/-- The second run is the first with `bs` left behind in the stream: pseudocode that reads nothing, begun idle. -/
inductive Run.Fed {α : Type} (bs : List Byte) : Run α → Run α → Prop
  | ret {t : State} (a : α) (h : t.exchange = none) : Fed bs (.ret t a) (.ret (t.feed bs) a)
  | raised {t : State} (e : ErrorKind) (h : t.exchange = none) : Fed bs (.raised t e) (.raised (t.feed bs) e)

/-- The second run is what the first comes to once `bs` is there: the same where the first ends, and where the first
waits, its read with `bs` and the rest of the command. Of a first run that raised an error nothing more is said, since a
failed read loses bytes that the second run has more of. -/
inductive Run.Resumes (bs : List Byte) : Run Result → Run Result → Prop
  | ends {r r' : Run Result} (h : r.Fed bs r') : Resumes bs r r'
  | fails {t : State} (e : ErrorKind) (r' : Run Result) (h : t.exchange = none) : Resumes bs (.raised t e) r'
  | waits {t : State} {x : Exchange} (h : t.exchange = some x) :
      Resumes bs (.blocked t) ((rxRead x (t.feed bs)).andThen fun s reply => afterReply x reply s)

section
variable {bs : List Byte} {s : State}

/-! ### One stretch of pseudocode after another -/

theorem Run.Fed.andThen {α β : Type} {r r' : Run α} {f : State → α → Run β} (h : r.Fed bs r')
    (hf : ∀ t a, t.exchange = none → (f t a).Fed bs (f (t.feed bs) a)) : (r.andThen f).Fed bs (r'.andThen f) := by
  cases h with
  | ret a ht => exact hf _ a ht
  | raised e ht => exact .raised e ht

theorem Run.Fed.andThen_resumes {α : Type} {r r' : Run α} {f : State → α → Run Result} (h : r.Fed bs r')
    (hf : ∀ t a, r = .ret t a → t.exchange = none → (f t a).Resumes bs (f (t.feed bs) a)) :
    (r.andThen f).Resumes bs (r'.andThen f) := by
  cases h with
  | ret a ht => exact hf _ a rfl ht
  | raised e ht => exact .fails e _ ht

theorem liftExcept_fed {α : Type} (hx : s.exchange = none) (e : Except ErrorKind α) :
    (liftExcept s e).Fed bs (liftExcept (s.feed bs) e) := by
  cases e with
  | ok a => exact .ret a hx
  | error e => exact .raised e hx

/-! ### What reads nothing -/

theorem txWrite_fed (hx : s.exchange = none) (frame : List Byte) :
    (txWrite frame s).Fed bs (txWrite frame (s.feed bs)) := by
  unfold txWrite
  rw [State.feed_verdicts]
  cases s.verdicts.headD .completes with
  | completes => exact .ret () hx
  | fails moved => exact .raised _ hx

theorem closeTransport_fed (hx : s.exchange = none) : (closeTransport s).Fed bs (closeTransport (s.feed bs)) := by
  unfold closeTransport
  rw [State.feed_verdicts]
  cases s.verdicts.headD .completes with
  | completes => exact .ret () hx
  | fails moved => exact .raised _ hx

theorem sendShort_fed (hx : s.exchange = none) (opcode : Word16) (c : Chan) (p2 : Int) :
    (sendShort opcode c p2 s).Fed bs (sendShort opcode c p2 (s.feed bs)) :=
  (liftExcept_fed hx _).andThen fun _ frame ht => txWrite_fed ht frame

theorem sendLong_fed (hx : s.exchange = none) (opcode : Word16) (c : Chan) (scaled : Int) :
    (sendLong opcode c scaled s).Fed bs (sendLong opcode c scaled (s.feed bs)) :=
  (liftExcept_fed hx _).andThen fun _ frame ht => txWrite_fed ht frame

theorem noResult_fed (hx : s.exchange = none) (u : Unit) : (noResult s u).Fed bs (noResult (s.feed bs) u) :=
  .ret _ hx

theorem identifyBody_fed (hx : s.exchange = none) : (identifyBody s).Fed bs (identifyBody (s.feed bs)) :=
  (txWrite_fed hx _).andThen fun _ u ht => noResult_fed ht u

theorem enableBody_fed (hx : s.exchange = none) (c : Chan) : (enableBody c s).Fed bs (enableBody c (s.feed bs)) :=
  (sendShort_fed hx _ c _).andThen fun _ u ht => .ret u ht

theorem disableBody_fed (hx : s.exchange = none) (c : Chan) : (disableBody c s).Fed bs (disableBody c (s.feed bs)) :=
  (sendShort_fed hx _ c _).andThen fun _ u ht => .ret u ht

theorem setModeBody_fed (hx : s.exchange = none) (c : Chan) (closed : Bool) :
    (setModeBody c closed s).Fed bs (setModeBody c closed (s.feed bs)) :=
  (sendShort_fed hx _ c _).andThen fun _ u ht => .ret u ht

theorem zeroBody_fed (hx : s.exchange = none) (c : Chan) : (zeroBody c s).Fed bs (zeroBody c (s.feed bs)) :=
  (enableBody_fed hx c).andThen fun _ _ ht => (sendShort_fed ht _ c _).andThen fun _ u hu => .ret u hu

theorem positionBody_fed (hx : s.exchange = none) (pos : Int) (c : Chan) :
    (positionBody pos c s).Fed bs (positionBody pos c (s.feed bs)) := by
  unfold positionBody
  rw [State.feed_seq, State.feed_cfgMaxPos]
  split
  · exact .raised _ hx
  · split
    · exact .raised _ hx
    · exact (liftExcept_fed hx _).andThen fun _ scaled ht =>
        (sendLong_fed ht _ c scaled).andThen fun _ u hu => noResult_fed hu u

theorem setVoltBody_fed (hx : s.exchange = none) (num : Int) (den : Nat) (c : Chan) :
    (setVoltBody num den c s).Fed bs (setVoltBody num den c (s.feed bs)) := by
  unfold setVoltBody
  rw [State.feed_cfgMaxVolt]
  split
  · exact .raised _ hx
  · exact (liftExcept_fed hx _).andThen fun _ scaled ht => sendLong_fed ht _ c scaled

theorem pollFinish_fed (hx : s.exchange = none) (c : Chan) (raw : List Byte) :
    (pollFinish c raw s).Fed bs (pollFinish c raw (s.feed bs)) := by
  unfold pollFinish
  split
  · exact .ret _ hx
  · exact .ret _ hx

theorem rampSetPoints_fed (hx : s.exchange = none) (raw target : Int) (steps : Nat) (delayMs : Word32) (c : Chan)
    (k : Nat) :
    (rampSetPoints raw target steps delayMs c k s).Fed bs (rampSetPoints raw target steps delayMs c k (s.feed bs)) := by
  induction k generalizing s with
  | zero => exact setVoltBody_fed hx _ _ c
  | succ k ih => exact (setVoltBody_fed hx _ _ c).andThen fun _ _ ht => ih ht

theorem rampFinish_fed (hx : s.exchange = none) (target : Int) (steps : Nat) (delayMs : Word32) (c : Chan)
    (reply : List Byte) :
    (rampFinish target steps delayMs c reply s).Fed bs (rampFinish target steps delayMs c reply (s.feed bs)) :=
  rampSetPoints_fed hx _ _ _ _ c _

/-! ### What reads -/

/-- A read that has its bytes takes the same ones with more behind them. -/
theorem rxRead_feed_of_enough {x : Exchange} (hv : s.verdicts.headD .completes = .completes)
    (hl : replyLen x ≤ (s.rxBuf ++ s.rxStream).length) {t : State} {reply : List Byte} (h : rxRead x s = .ret t reply) :
    t.exchange = none ∧ rxRead x (s.feed bs) = .ret (t.feed bs) reply := by
  have hlen : replyLen x ≤ (s.rxBuf ++ (s.rxStream ++ bs)).length := by simp at hl ⊢; omega
  have htake := List.take_append_of_le_length (l₂ := bs) hl
  have hdrop := List.drop_append_of_le_length (l₂ := bs) hl
  rw [List.append_assoc] at htake hdrop
  simp only [rxRead, hv, hl, if_true] at h
  cases h
  refine ⟨rfl, ?_⟩
  simp only [rxRead, State.feed_verdicts, hv, State.feed_rxBuf, State.feed_rxStream, hlen, if_true, htake, hdrop]
  rfl

/-- The read that waits, once `bs` has come, does what it would have done with `bs` in the stream from the start. -/
theorem rxRead_feed_of_waiting {x : Exchange} (hv : s.verdicts.headD .completes = .completes) :
    rxRead x ((s.setRx (some x) (s.rxBuf ++ s.rxStream) []).feed bs) = rxRead x (s.feed bs) := by
  have havail : s.rxBuf ++ s.rxStream ++ ([] ++ bs) = s.rxBuf ++ (s.rxStream ++ bs) := by simp
  simp only [rxRead, State.feed_verdicts, State.setRx_verdicts, hv, State.feed_rxBuf, State.setRx_rxBuf,
    State.feed_rxStream, State.setRx_rxStream, havail]
  rfl

theorem Run.andThen_congr {α β : Type} {r : Run α} {f g : State → α → Run β} (h : ∀ t a, r = .ret t a → f t a = g t a) :
    r.andThen f = r.andThen g := by
  cases r with
  | ret t a => exact h t a rfl
  | raised t e => rfl
  | blocked t => rfl

theorem rxRead_ret_config {s : State} {x : Exchange} {t : State} {reply : List Byte} (h : rxRead x s = .ret t reply) :
    t.config = s.config := by
  have hf := rxRead_follows (ws := false) (wm := false) (wo := false) x s
  rw [h] at hf
  exact hf.config

theorem sendShort_ret_config {s : State} {opcode : Word16} {c : Chan} {p2 : Int} {t : State} {u : Unit}
    (h : sendShort opcode c p2 s = .ret t u) : t.config = s.config := by
  have hf := sendShort_follows (ws := false) (wm := false) (wo := false) opcode c p2 s
  rw [h] at hf
  exact hf.config

/-- A read and what comes after it, where that is the rest `afterReply` gives to the exchange. -/
theorem rxRead_resumes {x : Exchange} {f : State → List Byte → Run Result}
    (hf : ∀ t reply, t.exchange = none → (f t reply).Resumes bs (f (t.feed bs) reply))
    (hrest : ∀ t reply, t.config = s.config → f t reply = afterReply x reply t) :
    ((rxRead x s).andThen f).Resumes bs ((rxRead x (s.feed bs)).andThen f) := by
  obtain ⟨moved, -, e⟩ | ⟨hv, hl, e⟩ | ⟨hv, -, e⟩ := rxRead_cases x s
  · rw [e]
    exact .fails _ _ rfl
  · obtain ⟨ht, e'⟩ := rxRead_feed_of_enough (bs := bs) hv hl e
    rw [e, e']
    exact hf _ _ ht
  · have hgo : (rxRead x (s.feed bs)).andThen f = (rxRead x (s.feed bs)).andThen fun t reply => afterReply x reply t :=
      Run.andThen_congr fun t reply h => hrest t reply (rxRead_ret_config h :)
    rw [e, hgo, ← rxRead_feed_of_waiting hv]
    exact .waits rfl

theorem query_resumes (hx : s.exchange = none) {opcode : Word16} {c : Chan} {x : Exchange}
    {f : State → List Byte → Run Result}
    (hf : ∀ t reply, t.exchange = none → (f t reply).Resumes bs (f (t.feed bs) reply))
    (hrest : ∀ t reply, t.config = s.config → f t reply = afterReply x reply t) :
    ((query opcode c x s).andThen f).Resumes bs ((query opcode c x (s.feed bs)).andThen f) := by
  unfold query
  rw [Run.andThen_assoc, Run.andThen_assoc]
  exact (sendShort_fed hx opcode c _).andThen_resumes fun t _ ht _ =>
    rxRead_resumes hf fun u reply hu => hrest u reply (hu.trans (sendShort_ret_config ht))

theorem rampBody_resumes (hx : s.exchange = none) {target : Int} {steps : Nat} {delayMs : Word32} {x : Exchange}
    {c : Chan} {f : State → Unit → Run Result}
    (hf : ∀ t u, t.exchange = none → (f t u).Resumes bs (f (t.feed bs) u))
    (hrest : ∀ t reply, t.config = s.config →
      (rampFinish target steps delayMs c reply t).andThen f = afterReply x reply t) :
    ((rampBody target steps delayMs x c s).andThen f).Resumes bs
      ((rampBody target steps delayMs x c (s.feed bs)).andThen f) := by
  unfold rampBody
  simp only [Run.andThen_assoc]
  refine (liftExcept_fed hx (rampCheck target steps s)).andThen_resumes fun t u ht hxt => ?_
  have hts : t = s := by
    cases hc : rampCheck target steps s with
    | ok v => rw [hc] at ht; cases ht; rfl
    | error e => rw [hc] at ht; cases ht
  subst hts
  exact query_resumes hx (fun t reply ht => (rampFinish_fed ht _ _ _ c reply).andThen_resumes fun u v _ hu => hf u v hu)
    hrest

/-- SHUTDOWN from channel `c` on (R152), where SHUTDOWN from the channel after it is known. -/
theorem shutdownFrom_resumes {c : Chan}
    (hafter : ∀ t : State, t.exchange = none → ((shutdownFrom (chansAfter c) t).andThen noResult).Resumes bs
      ((shutdownFrom (chansAfter c) (t.feed bs)).andThen noResult)) (hx : s.exchange = none) :
    ((shutdownFrom (c :: chansAfter c) s).andThen noResult).Resumes bs
      ((shutdownFrom (c :: chansAfter c) (s.feed bs)).andThen noResult) := by
  unfold shutdownFrom
  simp only [Run.andThen_assoc]
  refine (setModeBody_fed hx c false).andThen_resumes fun t _ _ ht =>
    rampBody_resumes ht (fun u _ hu => hafter u hu) fun u reply hu => ?_
  rw [← hu, afterReply, Run.andThen_assoc]

theorem shutdownFrom_nil_fed (hx : s.exchange = none) : (shutdownFrom [] s).Fed bs (shutdownFrom [] (s.feed bs)) :=
  (closeTransport_fed hx).andThen fun _ u ht => .ret u ht

theorem shutdown_resumes (hx : s.exchange = none) :
    ((shutdownFrom [.ch1, .ch2, .ch3] s).andThen noResult).Resumes bs
      ((shutdownFrom [.ch1, .ch2, .ch3] (s.feed bs)).andThen noResult) :=
  shutdownFrom_resumes (c := .ch1) (fun _ h1 => shutdownFrom_resumes (c := .ch2) (fun _ h2 =>
    shutdownFrom_resumes (c := .ch3) (fun _ h3 => .ends ((shutdownFrom_nil_fed h3).andThen fun _ u ht =>
      noResult_fed ht u)) h2) h1) hx

theorem withChannel_resumes {ch : Byte} {body : Chan → State → Run Result} (hx : s.exchange = none)
    (hbody : ∀ c, (body c s).Resumes bs (body c (s.feed bs))) :
    (withChannel ch s body).Resumes bs (withChannel ch (s.feed bs) body) := by
  unfold withChannel
  split
  · exact hbody _
  · exact .fails _ _ hx

end

/-! ### Commands -/

/-- What `go` answers with `bs` in the stream from the start is what it comes to when it waits and then gets `bs`. -/
def TakesLateBytes (bs : List Byte) (go : State → Out) : Prop :=
  ∀ (s t : State) (x : Exchange), go s = .next t → t.exchange = some x → arrive bs t = go (s.feed bs)

/-- Of pseudocode whose run resumes, only a run that waits leaves an exchange in flight. -/
theorem Run.Resumes.arrive_eq {bs : List Byte} {r r' : Run Result} {t : State} {x : Exchange} (hr : r.Resumes bs r')
    (h : conclude r = .next t) (hx : t.exchange = some x) : arrive bs t = conclude r' := by
  cases hr with
  | ends hf =>
    cases hf with
    | ret a hu => cases h; simp [hu] at hx
    | raised e hu => cases h; simp [hu] at hx
  | fails e r' hu => cases h; simp [hu] at hx
  | waits hu =>
    cases h
    cases hu.symm.trans hx
    simp only [arrive, hx, State.feed]

theorem runCommand_takesLateBytes {bs : List Byte} {body : State → Run Result}
    (hbody : ∀ s : State, s.exchange = none → (body s).Resumes bs (body (s.feed bs))) :
    TakesLateBytes bs fun s => runCommand s body := by
  intro s t x h hx
  obtain ⟨hacc, hrun⟩ := runCommand_next h
  have hfed : Accepts (s.feed bs) := hacc
  exact ((hbody s hacc.1).arrive_eq hrun hx).trans (runCommand_accepts hfed body).symm

theorem channelCommand_takesLateBytes {bs : List Byte} {ch : Byte} {body : Chan → State → Run Result}
    (hbody : ∀ (c : Chan) (s : State), s.exchange = none → (body c s).Resumes bs (body c (s.feed bs))) :
    TakesLateBytes bs fun s => runCommand s fun s => withChannel ch s body :=
  runCommand_takesLateBytes fun s hx => withChannel_resumes hx fun c => hbody c s hx

/-- A channel command that reads nothing and returns no value. -/
theorem writeCommand_takesLateBytes {bs : List Byte} {ch : Byte} {body : Chan → State → Run Unit}
    (hbody : ∀ (c : Chan) (s : State), s.exchange = none → (body c s).Fed bs (body c (s.feed bs))) :
    TakesLateBytes bs fun s => runCommand s fun s => withChannel ch s fun c s => (body c s).andThen noResult :=
  channelCommand_takesLateBytes fun c s hx => .ends ((hbody c s hx).andThen fun _ u ht => noResult_fed ht u)

/-- A function unit never waits. -/
theorem answerUnit_takesLateBytes {bs : List Byte} (r : State → Except ErrorKind Result) :
    TakesLateBytes bs fun s => answerUnit s (r s) := by
  intro s t x h hx
  obtain ⟨hs, -, rfl⟩ := answerUnit_next h
  simp [hs] at hx

theorem exec_takesLateBytes {i : Instr} (hport : onCommandPort i = true) (bs : List Byte) :
    TakesLateBytes bs (exec i) := by
  cases i with
  | identify => exact runCommand_takesLateBytes fun s hx => .ends (identifyBody_fed hx)
  | enable ch => exact writeCommand_takesLateBytes fun c s hx => enableBody_fed hx c
  | disable ch => exact writeCommand_takesLateBytes fun c s hx => disableBody_fed hx c
  | setMode ch closed => exact writeCommand_takesLateBytes fun c s hx => setModeBody_fed hx c closed
  | zero ch => exact writeCommand_takesLateBytes fun c s hx => zeroBody_fed hx c
  | setVolt ch volts => exact writeCommand_takesLateBytes fun c s hx => setVoltBody_fed hx volts 1 c
  | position ch pos => exact channelCommand_takesLateBytes fun c s hx => .ends (positionBody_fed hx pos c)
  | pollZero ch =>
    exact channelCommand_takesLateBytes fun c s hx =>
      query_resumes hx (fun t raw ht => .ends (pollFinish_fed ht c raw)) fun _ _ _ => rfl
  | getMode ch | getEnable ch | getPosition ch | getVolt ch =>
    exact channelCommand_takesLateBytes fun c s hx =>
      query_resumes hx (fun t raw ht => .ends (.ret _ ht)) fun _ _ _ => rfl
  | rampVolt ch target steps delayMs =>
    exact channelCommand_takesLateBytes fun c s hx =>
      rampBody_resumes hx (fun t u ht => .ends (noResult_fed ht u)) fun _ _ _ => rfl
  | shutdown => exact runCommand_takesLateBytes fun s hx => shutdown_resumes hx
  | decodeRaw raw =>
    intro s t x h hx
    cases hd : decodeHeader raw with
    | some hdr =>
      simp only [exec, execDecodeRaw, hd] at h ⊢
      exact answerUnit_takesLateBytes (fun _ => .ok (.header hdr)) s t x h hx
    | none => simp [exec, execDecodeRaw, hd] at h
  | encodeShort | encodeLong | pos2Scaled | scaled2Pos | volt2Scaled | scaled2Volt | bayAddr | int2b1 | int2b2 | b2u16
  | b2i16 => exact answerUnit_takesLateBytes _
  | _ => cases hport

/-- Settles O54: a step that takes `bs` is their arrival at the block that waits. -/
theorem lateBytesMakeNoDifference : Obligations.LateBytesMakeNoDifference := by
  intro s t i x bs hport _ h hx
  rw [step_of_bytes rfl]
  exact exec_takesLateBytes hport bs s t x h hx

end Sys2Proof.Machine
end

section
/-! SUPPORT. What a step can do, by the event it takes (spec 00_scope R8). -/

namespace Sys2Proof.Machine

/-- Everything a step that answers a next state can have done (R8), by the event it took. -/
theorem step_next {s t : State} (h : step s = .next t) :
    (s.inbox = [] ∧ s.exchange = none ∧ t = s) ∨
    (∃ w rest i, s.inbox = .instr w :: rest ∧ decode s.config w = .ok i ∧ exec i (s.setInbox rest) = .next t) ∨
    (∃ bs rest, s.inbox = .bytes bs :: rest ∧ arrive bs (s.setInbox rest) = .next t) ∨
    (∃ moved rest, s.inbox = .failAccess moved :: rest ∧ failAccess moved (s.setInbox rest) = .next t) ∨
    (∃ cfg rest, s.inbox = .reset cfg :: rest ∧ takeReset cfg (s.setInbox rest) = .next t) := by
  cases hi : s.inbox with
  | nil =>
    cases hx : s.exchange with
    | some x => simp [step, hi, hx] at h
    | none =>
      simp only [step, hi, hx, Option.isSome_none, Bool.false_eq_true, if_false] at h
      cases h
      exact .inl ⟨rfl, rfl, rfl⟩
  | cons e rest =>
    cases e with
    | instr w =>
      cases hd : decode s.config w with
      | ok i => exact .inr (.inl ⟨w, rest, i, rfl, hd, (step_of_decode_ok hi hd).symm.trans h⟩)
      | error e => cases (step_of_decode_error hi hd).symm.trans h
    | bytes bs => exact .inr (.inr (.inl ⟨bs, rest, rfl, (step_of_bytes hi).symm.trans h⟩))
    | failAccess moved =>
      simp only [step, hi] at h
      exact .inr (.inr (.inr (.inl ⟨moved, rest, rfl, h⟩)))
    | reset cfg =>
      simp only [step, hi] at h
      exact .inr (.inr (.inr (.inr ⟨cfg, rest, rfl, h⟩)))

end Sys2Proof.Machine
end

section
/-! SUPPORT. Two runs side by side: what the elementary operations keep between two states, every meaning keeps (spec
10_state R19, R31; 43 to 45, the pseudocode of the commands). -/

namespace Sys2Proof.Machine

open Safety

/-- Two runs of one stretch of pseudocode that end alike, with one value in states under `R` or both early (an error, a
read that waits) in states under `Q`. -/
inductive Run.Pairs {α : Type} (R Q : State → State → Prop) : Run α → Run α → Prop
  | ret {t t' : State} (a : α) (h : R t t') : Pairs R Q (.ret t a) (.ret t' a)
  | raised {t t' : State} (e : ErrorKind) (h : Q t t') : Pairs R Q (.raised t e) (.raised t' e)
  | blocked {t t' : State} (h : Q t t') : Pairs R Q (.blocked t) (.blocked t')

/-- `R` relates states inside a command, `Q` those it can end in. States under `R` agree on all that pseudocode looks at
outside the transport primitives, and each elementary operation keeps them related. -/
structure Simulation (R Q : State → State → Prop) : Prop where
  ends       : ∀ {s s'}, R s s' → Q s s'
  seq        : ∀ {s s'}, R s s' → s'.seq = s.seq
  config     : ∀ {s s'}, R s s' → s'.config = s.config
  cfgMaxPos  : ∀ {s s'}, R s s' → s'.cfgMaxPos = s.cfgMaxPos
  cfgMaxVolt : ∀ {s s'}, R s s' → s'.cfgMaxVolt = s.cfgMaxVolt
  setSeq     : ∀ {s s'} (c v), R s s' → R (s.setSeq c v) (s'.setSeq c v)
  setMode    : ∀ {s s'} (c v), R s s' → R (s.setMode c v) (s'.setMode c v)
  waitMs     : ∀ {s s'} (ms), R s s' → R (waitMs ms s) (waitMs ms s')
  setSession : ∀ {s s'} (v), R s s' → Q (s.setSession v) (s'.setSession v)
  report     : ∀ {s s'} (r), Q s s' → Q (report r s) (report r s')
  txWrite    : ∀ {s s'} (frame), R s s' → (txWrite frame s).Pairs R Q (txWrite frame s')
  rxRead     : ∀ {s s'} {x : Exchange}, rampOperandsLegal s x → R s s' → (rxRead x s).Pairs R Q (rxRead x s')
  close      : ∀ {s s'}, R s s' → (closeTransport s).Pairs R Q (closeTransport s')

theorem Run.Pairs.andThen {α β : Type} {R R' Q : State → State → Prop} {r r' : Run α} {f : State → α → Run β}
    (h : r.Pairs R Q r') (hf : ∀ t t' a, R t t' → (f t a).Pairs R' Q (f t' a)) :
    (r.andThen f).Pairs R' Q (r'.andThen f) := by
  cases h with
  | ret a ht => exact hf _ _ a ht
  | raised e ht => exact .raised e ht
  | blocked ht => exact .blocked ht

/-- What holds of every way the first of two runs can end may be used after it. -/
theorem Run.Pairs.and_first {α : Type} {R Q : State → State → Prop} {P : State → Prop} {r r' : Run α}
    (h : r.Pairs R Q r') (hr : r.All P) : r.Pairs (fun t t' => P t ∧ R t t') Q r' := by
  cases h with
  | ret a ht => exact .ret a ⟨hr, ht⟩
  | raised e ht => exact .raised e ht
  | blocked ht => exact .blocked ht

theorem rampOperandsLegal_congr {s t : State} {x : Exchange} (e : t.cfgMaxVolt = s.cfgMaxVolt)
    (h : rampOperandsLegal s x) : rampOperandsLegal t x := by
  cases x with
  | ramp c target steps delayMs => simpa only [rampOperandsLegal, e] using h
  | _ => trivial

/-- A ramp that passed its checks has legal operands (R150). -/
theorem rampCheck_ok {target : Int} {steps : Nat} {s : State} (h : rampCheck target steps s = .ok ()) :
    steps ≠ 0 ∧ 0 ≤ target ∧ target ≤ (s.cfgMaxVolt : Int) := by
  unfold rampCheck at h
  split at h
  · cases h
  · split at h
    · cases h
    · exact ⟨‹_›, by omega⟩

section
variable {R Q : State → State → Prop} (B : Simulation R Q) {s s' : State} (h : R s s')
include B h

/-! ### The pseudocode of the commands -/

theorem noResult_pairs (u : Unit) : (noResult s u).Pairs Q Q (noResult s' u) := .ret _ (B.ends h)

theorem liftExcept_pairs {α : Type} (e : Except ErrorKind α) : (liftExcept s e).Pairs R Q (liftExcept s' e) := by
  cases e with
  | ok a => exact .ret a h
  | error e => exact .raised e (B.ends h)

theorem sendShort_pairs (opcode : Word16) (c : Chan) (p2 : Int) :
    (sendShort opcode c p2 s).Pairs R Q (sendShort opcode c p2 s') := by
  unfold sendShort
  rw [B.config h]
  exact (liftExcept_pairs B h _).andThen fun _ _ frame ht => B.txWrite frame ht

theorem sendLong_pairs (opcode : Word16) (c : Chan) (scaled : Int) :
    (sendLong opcode c scaled s).Pairs R Q (sendLong opcode c scaled s') := by
  unfold sendLong
  rw [B.config h]
  exact (liftExcept_pairs B h _).andThen fun _ _ frame ht => B.txWrite frame ht

theorem query_pairs {x : Exchange} (hx : rampOperandsLegal s x) (opcode : Word16) (c : Chan) :
    (query opcode c x s).Pairs R Q (query opcode c x s') := by
  have hmax : (sendShort opcode c s.config.queryP2 s).All fun t => t.cfgMaxVolt = s.cfgMaxVolt :=
    (sendShort_follows (ws := false) (wm := false) (wo := false) _ _ _ _).imp fun _ hf => hf.cfgMaxVolt
  unfold query
  rw [B.config h]
  exact ((sendShort_pairs B h _ c _).and_first hmax).andThen fun _ _ _ ⟨htmax, ht⟩ =>
    B.rxRead (rampOperandsLegal_congr htmax hx) ht

theorem identifyBody_pairs : (identifyBody s).Pairs Q Q (identifyBody s') := by
  unfold identifyBody
  rw [B.config h]
  exact (B.txWrite _ h).andThen fun _ _ u ht => noResult_pairs B ht u

theorem enableBody_pairs (c : Chan) : (enableBody c s).Pairs R Q (enableBody c s') := by
  unfold enableBody
  rw [B.config h]
  exact (sendShort_pairs B h _ c _).andThen fun _ _ _ ht => .ret () (B.setSeq c _ ht)

theorem disableBody_pairs (c : Chan) : (disableBody c s).Pairs R Q (disableBody c s') := by
  unfold disableBody
  rw [B.config h]
  exact (sendShort_pairs B h _ c _).andThen fun _ _ _ ht => .ret () (B.setSeq c _ ht)

theorem setModeBody_pairs (c : Chan) (closed : Bool) : (setModeBody c closed s).Pairs R Q (setModeBody c closed s') := by
  unfold setModeBody
  rw [B.config h]
  exact (sendShort_pairs B h _ c _).andThen fun _ _ _ ht => .ret () (B.setMode c _ ht)

theorem zeroBody_pairs (c : Chan) : (zeroBody c s).Pairs R Q (zeroBody c s') :=
  (enableBody_pairs B h c).andThen fun t t' _ ht => by
    rw [B.config ht]
    exact (sendShort_pairs B ht _ c _).andThen fun _ _ _ hu => .ret () (B.setSeq c _ hu)

theorem pollFinish_pairs (c : Chan) (raw : List Byte) : (pollFinish c raw s).Pairs Q Q (pollFinish c raw s') := by
  unfold pollFinish
  split
  · exact .ret _ (B.ends (B.setSeq c _ h))
  · exact .ret _ (B.ends h)

theorem positionFinish_pairs (raw : List Byte) : (positionFinish raw s).Pairs Q Q (positionFinish raw s') := by
  unfold positionFinish
  rw [B.cfgMaxPos h]
  exact .ret _ (B.ends h)

theorem voltFinish_pairs (raw : List Byte) : (voltFinish raw s).Pairs Q Q (voltFinish raw s') := by
  unfold voltFinish
  rw [B.cfgMaxVolt h]
  exact .ret _ (B.ends h)

theorem positionBody_pairs (pos : Int) (c : Chan) : (positionBody pos c s).Pairs Q Q (positionBody pos c s') := by
  unfold positionBody
  rw [B.seq h, B.cfgMaxPos h, B.config h]
  split
  · exact .raised _ (B.ends h)
  · split
    · exact .raised _ (B.ends h)
    · exact (liftExcept_pairs B h _).andThen fun _ _ scaled ht =>
        (sendLong_pairs B ht _ c scaled).andThen fun _ _ u hu => noResult_pairs B hu u

theorem setVoltBody_pairs (num : Int) (den : Nat) (c : Chan) :
    (setVoltBody num den c s).Pairs R Q (setVoltBody num den c s') := by
  unfold setVoltBody
  rw [B.cfgMaxVolt h, B.config h]
  split
  · exact .raised _ (B.ends h)
  · exact (liftExcept_pairs B h _).andThen fun _ _ scaled ht => sendLong_pairs B ht _ c scaled

theorem rampSetPoints_pairs (raw target : Int) (steps : Nat) (delayMs : Word32) (c : Chan) (k : Nat) :
    (rampSetPoints raw target steps delayMs c k s).Pairs R Q (rampSetPoints raw target steps delayMs c k s') := by
  induction k generalizing s s' with
  | zero =>
    unfold rampSetPoints
    rw [B.cfgMaxVolt h]
    exact setVoltBody_pairs B h _ _ c
  | succ k ih =>
    unfold rampSetPoints
    rw [B.cfgMaxVolt h]
    exact (setVoltBody_pairs B h _ _ c).andThen fun _ _ _ ht => ih (B.waitMs delayMs ht)

theorem rampFinish_pairs (target : Int) (steps : Nat) (delayMs : Word32) (c : Chan) (reply : List Byte) :
    (rampFinish target steps delayMs c reply s).Pairs R Q (rampFinish target steps delayMs c reply s') :=
  rampSetPoints_pairs B h _ _ _ _ c _

theorem rampBody_pairs {target : Int} {steps : Nat} {x : Exchange}
    (hx : rampCheck target steps s = .ok () → rampOperandsLegal s x) (delayMs : Word32) (c : Chan) :
    (rampBody target steps delayMs x c s).Pairs R Q (rampBody target steps delayMs x c s') := by
  have hcheck : rampCheck target steps s' = rampCheck target steps s := by simp only [rampCheck, B.cfgMaxVolt h]
  unfold rampBody
  rw [hcheck]
  cases hok : rampCheck target steps s with
  | error e => exact .raised e (B.ends h)
  | ok u => exact (query_pairs B h (hx hok) _ c).andThen fun _ _ reply ht => rampFinish_pairs B ht _ _ _ c reply

theorem shutdownFrom_pairs (cs : List Chan) : (shutdownFrom cs s).Pairs Q Q (shutdownFrom cs s') := by
  induction cs generalizing s s' with
  | nil => exact (B.close h).andThen fun _ _ _ ht => .ret () (B.setSession false ht)
  | cons c cs ih =>
    exact (setModeBody_pairs B h c false).andThen fun t t' _ ht => by
      rw [B.config ht]
      exact (rampBody_pairs (x := .shutdown c) B ht (fun _ => trivial) _ c).andThen fun _ _ _ hu => ih hu

theorem afterReply_pairs (x : Exchange) (reply : List Byte) :
    (afterReply x reply s).Pairs Q Q (afterReply x reply s') := by
  cases x with
  | pollZero c => exact pollFinish_pairs B h c reply
  | getMode c | getEnable c => exact .ret _ (B.ends h)
  | getPosition c => exact positionFinish_pairs B h reply
  | getVolt c => exact voltFinish_pairs B h reply
  | ramp c target steps delayMs =>
    exact (rampFinish_pairs B h _ _ _ c reply).andThen fun _ _ u ht => noResult_pairs B ht u
  | shutdown c =>
    simp only [afterReply, Run.andThen_assoc]
    rw [B.config h]
    exact (rampFinish_pairs B h _ _ _ c reply).andThen fun _ _ _ ht =>
      (shutdownFrom_pairs B ht _).andThen fun _ _ _ hu => .ret _ hu

theorem withChannel_pairs {body : Chan → State → Run Result} (ch : Byte)
    (hbody : ∀ c, (body c s).Pairs Q Q (body c s')) : (withChannel ch s body).Pairs Q Q (withChannel ch s' body) := by
  unfold withChannel
  split
  · exact hbody _
  · exact .raised _ (B.ends h)

end

/-! ### Meanings -/

/-- The second outcome is a next state under `Q` to the first's, where that is one. -/
def Answers (Q : State → State → Prop) (o o' : Out) : Prop := ∀ t, o = .next t → ∃ t', o' = .next t' ∧ Q t t'

/-- What runs once an instruction is accepted keeps every simulation. -/
def Respects (go : State → Out) : Prop :=
  ∀ {R Q : State → State → Prop}, Simulation R Q → ∀ {s s' : State}, R s s' → Answers Q (go s) (go s')

theorem answers_next {Q : State → State → Prop} {t t' : State} (h : Q t t') : Answers Q (.next t) (.next t') := by
  rintro _ ⟨⟩
  exact ⟨t', rfl, h⟩

theorem answers_refused {Q : State → State → Prop} {e : Refusal} {o' : Out} : Answers Q (.refused e) o' := by
  rintro _ ⟨⟩

theorem Run.Pairs.conclude {R Q : State → State → Prop} (B : Simulation R Q) {r r' : Run Result} (h : r.Pairs Q Q r') :
    Answers Q (conclude r) (conclude r') := by
  cases h with
  | ret a ht => exact answers_next (B.report _ ht)
  | raised e ht => exact answers_next (B.report _ ht)
  | blocked ht => exact answers_next ht

theorem Run.Pairs.concludeWrite {R Q : State → State → Prop} (B : Simulation R Q) {r r' : Run Unit}
    (h : r.Pairs R Q r') : Answers Q (concludeWrite r) (concludeWrite r') := by
  cases h with
  | ret a ht => exact answers_next (B.ends ht)
  | raised e ht => exact answers_next (B.report _ ht)
  | blocked ht => exact answers_next ht

/-- What an instruction can be: something accepted at a port that keeps every simulation, the arrival of a reply, or a
refusal. -/
inductive Meaning : (State → Out) → Prop
  | accepted {m go : State → Out} (hgo : Respects go) (hm : ∀ s, m s = accept s go) : Meaning m
  | reply {m : State → Out} (bs : List Byte) (hm : ∀ s, m s = arrive bs s) : Meaning m
  | refusal {m : State → Out} (e : Refusal) (hm : ∀ s, m s = .refused e) : Meaning m

theorem meaning_command {body : State → Run Result}
    (hbody : ∀ {R Q : State → State → Prop}, Simulation R Q → ∀ {s s' : State}, R s s' →
      (body s).Pairs Q Q (body s')) : Meaning fun s => runCommand s body := by
  refine .accepted (fun {R Q} B {s s'} h => ?_) fun _ => rfl
  rw [B.cfgMaxPos h, B.cfgMaxVolt h]
  split
  · exact answers_refused
  · exact (hbody B h).conclude B

theorem meaning_channelCommand {ch : Byte} {body : Chan → State → Run Result}
    (hbody : ∀ {R Q : State → State → Prop}, Simulation R Q → ∀ {s s' : State}, R s s' → ∀ c,
      (body c s).Pairs Q Q (body c s')) : Meaning fun s => runCommand s fun s => withChannel ch s body :=
  meaning_command fun B _ _ h => withChannel_pairs B h ch (hbody B h)

/-- A channel command that returns no value. -/
theorem meaning_writeCommand {ch : Byte} {body : Chan → State → Run Unit}
    (hbody : ∀ {R Q : State → State → Prop}, Simulation R Q → ∀ {s s' : State}, R s s' → ∀ c,
      (body c s).Pairs R Q (body c s')) :
    Meaning fun s => runCommand s fun s => withChannel ch s fun c s => (body c s).andThen noResult :=
  meaning_channelCommand fun B _ _ h c => (hbody B h c).andThen fun _ _ u ht => noResult_pairs B ht u

/-- A query and what it returns (R140). -/
theorem meaning_query {ch : Byte} {opcode : Word16} {x : Chan → Exchange} {f : Chan → State → List Byte → Run Result}
    (hx : ∀ c s, rampOperandsLegal s (x c))
    (hf : ∀ {R Q : State → State → Prop}, Simulation R Q → ∀ {s s' : State}, R s s' → ∀ c raw,
      (f c s raw).Pairs Q Q (f c s' raw)) :
    Meaning fun s => runCommand s fun s => withChannel ch s fun c s => (query opcode c (x c) s).andThen (f c) :=
  meaning_channelCommand fun B _ _ h c => (query_pairs B h (hx c _) _ c).andThen fun _ _ raw ht => hf B ht c raw

theorem meaning_unit (r : Config → Except ErrorKind Result) : Meaning fun s => answerUnit s (r s.config) := by
  refine .accepted (go := fun s => .next (report (r s.config) s)) (fun {R Q} B {s s'} h => ?_) fun _ => rfl
  beta_reduce
  rw [B.config h]
  exact answers_next (B.report _ (B.ends h))

theorem meaning_constUnit (r : Except ErrorKind Result) : Meaning fun s => answerUnit s r := meaning_unit fun _ => r

theorem meaning_frame (i : Instr) : Meaning (writeFrame i) := by
  refine .accepted (fun {R Q} B {s s'} h => ?_) fun _ => rfl
  rw [B.config h]
  split
  · exact (B.txWrite _ h).concludeWrite B
  · exact answers_refused

/-- Every instruction has one of the three kinds of meaning. -/
theorem exec_meaning (i : Instr) : Meaning (exec i) := by
  cases i with
  | frameIdentify | frameEnable | frameDisable | frameReqEnable | frameSetMode | frameReqMode | frameReqVolt
  | frameReqPos | frameZero | frameSetVolt | frameSetPos => exact meaning_frame _
  | reply6 | reply10 => exact .reply _ fun _ => rfl
  | identify => exact meaning_command fun B _ _ h => identifyBody_pairs B h
  | enable ch => exact meaning_writeCommand fun B _ _ h => enableBody_pairs B h
  | disable ch => exact meaning_writeCommand fun B _ _ h => disableBody_pairs B h
  | setMode ch closed => exact meaning_writeCommand fun B _ _ h c => setModeBody_pairs B h c closed
  | zero ch => exact meaning_writeCommand fun B _ _ h => zeroBody_pairs B h
  | setVolt ch volts => exact meaning_writeCommand fun B _ _ h => setVoltBody_pairs B h volts 1
  | position ch pos => exact meaning_channelCommand fun B _ _ h => positionBody_pairs B h pos
  | pollZero ch => exact meaning_query (fun _ _ => trivial) fun B _ _ h => pollFinish_pairs B h
  | getMode ch | getEnable ch => exact meaning_query (fun _ _ => trivial) fun B _ _ h _ _ => .ret _ (B.ends h)
  | getPosition ch => exact meaning_query (fun _ _ => trivial) fun B _ _ h _ => positionFinish_pairs B h
  | getVolt ch => exact meaning_query (fun _ _ => trivial) fun B _ _ h _ => voltFinish_pairs B h
  | rampVolt ch target steps delayMs =>
    refine meaning_writeCommand fun B s _ h c => rampBody_pairs B h (fun hok => ?_) delayMs c
    obtain ⟨hsteps, hrange⟩ := rampCheck_ok hok
    exact ⟨fun h0 => hsteps (by rw [h0]; rfl), hrange⟩
  | shutdown =>
    exact meaning_command fun B _ _ h => (shutdownFrom_pairs B h _).andThen fun _ _ _ ht => .ret _ ht
  | decodeRaw raw =>
    show Meaning fun s => execDecodeRaw raw s
    unfold execDecodeRaw
    cases decodeHeader raw with
    | some hdr => exact meaning_constUnit _
    | none => exact .refusal _ fun _ => rfl
  | pos2Scaled pos max => exact meaning_unit fun cfg => (posToScaled cfg.tie pos max.val).map .int
  | volt2Scaled volts max => exact meaning_unit fun cfg => (voltToScaled cfg.tie volts.num volts.den max.val).map .int
  | encodeShort | encodeLong | scaled2Pos | scaled2Volt | bayAddr | int2b1 | int2b2 | b2u16 | b2i16 =>
    exact meaning_constUnit _
  | reserved0E | reserved0F | reserved1C | reserved1D | reserved1E | reserved1F => exact .refusal _ fun _ => rfl

/-- Bytes that come to two waiting blocks: where the reads pair, so does the rest of the command. -/
theorem arrive_answers {R Q : State → State → Prop} (B : Simulation R Q) {s s' : State} {x : Exchange} {bs : List Byte}
    (hx : s.exchange = some x) (hx' : s'.exchange = some x)
    (hread : (rxRead x (s.setRx (some x) s.rxBuf (s.rxStream ++ bs))).Pairs R Q
      (rxRead x (s'.setRx (some x) s'.rxBuf (s'.rxStream ++ bs)))) : Answers Q (arrive bs s) (arrive bs s') := by
  simp only [arrive, hx, hx']
  exact (hread.andThen fun _ _ reply ht => afterReply_pairs B ht x reply).conclude B

end Sys2Proof.Machine
end

section
/-! SUPPORT. The invariant of the state (spec 10_state R21, R22, R27; 20_memory R45): inside a command the block is
consistent, idle and open, and a simulation with itself says that every meaning keeps it so. -/

namespace Sys2Proof.Machine

open Safety

/-- What holds inside a command while its pseudocode runs. -/
structure Running (s : State) : Prop where
  consistent : Consistent s
  idle       : s.exchange = none
  opened     : s.sessionOpen = true

/-- The same state twice, with `P`. -/
def Twice (P : State → Prop) (s s' : State) : Prop := s' = s ∧ P s

theorem consistent_of_idle {s t : State} (h : Consistent s) (hc : t.config = s.config) (hp : t.cfgMaxPos = s.cfgMaxPos)
    (hv : t.cfgMaxVolt = s.cfgMaxVolt) (hx : t.exchange = none) (hb : t.rxBuf = []) : Consistent t where
  legal := hc ▸ h.legal
  maxPos := by rw [hp, hc, h.maxPos]
  maxVolt := by rw [hv, hc, h.maxVolt]
  idleBuf _ := hb
  waiting x e := by rw [hx] at e; cases e

theorem consistent_report {s : State} (h : Consistent s) (r : Except ErrorKind Result) : Consistent (report r s) :=
  ⟨h.legal, h.maxPos, h.maxVolt, h.idleBuf, h.waiting⟩

theorem consistent_setInbox {s : State} (h : Consistent s) (l : List PortEvent) : Consistent (s.setInbox l) :=
  ⟨h.legal, h.maxPos, h.maxVolt, h.idleBuf, h.waiting⟩

theorem consistent_reset {cfg : Config} (h : configLegal cfg = true) (s : State) : Consistent (resetBlock cfg s) :=
  ⟨h, rfl, rfl, fun _ => rfl, nofun⟩

section
variable {s : State}

theorem Running.rxBuf (h : Running s) : s.rxBuf = [] := h.consistent.idleBuf h.idle

/-- What writes neither the configuration nor the receive side leaves an idle block consistent. -/
theorem Running.consistent_after (h : Running s) {t : State} (hc : t.config = s.config)
    (hp : t.cfgMaxPos = s.cfgMaxPos) (hv : t.cfgMaxVolt = s.cfgMaxVolt) (hx : t.exchange = s.exchange)
    (hb : t.rxBuf = s.rxBuf) : Consistent t :=
  consistent_of_idle h.consistent hc hp hv (hx.trans h.idle) (hb.trans h.rxBuf)

theorem txWrite_running (h : Running s) (frame : List Byte) :
    (txWrite frame s).Pairs (Twice Running) (Twice Consistent) (txWrite frame s) := by
  obtain ⟨-, e⟩ | ⟨moved, -, e⟩ := txWrite_cases frame s
  · rw [e]
    exact .ret () ⟨rfl, h.consistent_after rfl rfl rfl rfl rfl, h.idle, h.opened⟩
  · rw [e]
    exact .raised _ ⟨rfl, h.consistent_after rfl rfl rfl rfl rfl⟩

theorem closeTransport_running (h : Running s) :
    (closeTransport s).Pairs (Twice Running) (Twice Consistent) (closeTransport s) := by
  obtain ⟨-, e⟩ | ⟨moved, -, e⟩ := closeTransport_cases s
  · rw [e]
    exact .ret () ⟨rfl, h.consistent_after rfl rfl rfl rfl rfl, h.idle, h.opened⟩
  · rw [e]
    exact .raised _ ⟨rfl, h.consistent_after rfl rfl rfl rfl rfl⟩

/-- A read in an open session, from whatever buffer and stream: only one that could not complete waits (R45). -/
theorem rxRead_running (h : Consistent s) (ho : s.sessionOpen = true) {x : Exchange} (hx : rampOperandsLegal s x)
    (y : Option Exchange) (buf stream : List Byte) :
    (rxRead x (s.setRx y buf stream)).Pairs (Twice Running) (Twice Consistent) (rxRead x (s.setRx y buf stream)) := by
  obtain ⟨moved, -, e⟩ | ⟨-, -, e⟩ | ⟨hv, hl, e⟩ := rxRead_cases x (s.setRx y buf stream)
  · rw [e]
    exact .raised _ ⟨rfl, consistent_of_idle h rfl rfl rfl rfl rfl⟩
  · rw [e]
    exact .ret _ ⟨rfl, consistent_of_idle h rfl rfl rfl rfl rfl, rfl, ho⟩
  · rw [e]
    refine .blocked ⟨rfl, h.legal, h.maxPos, h.maxVolt, nofun, ?_⟩
    rintro _ ⟨⟩
    exact ⟨hl, rfl, ho, hv, rampOperandsLegal_congr rfl hx⟩

end

/-- Every elementary operation keeps a running command's state; closing the session ends the command. -/
theorem running_simulation : Simulation (Twice Running) (Twice Consistent) where
  ends := fun ⟨e, h⟩ => ⟨e, h.consistent⟩
  seq := by rintro s _ ⟨rfl, -⟩; rfl
  config := by rintro s _ ⟨rfl, -⟩; rfl
  cfgMaxPos := by rintro s _ ⟨rfl, -⟩; rfl
  cfgMaxVolt := by rintro s _ ⟨rfl, -⟩; rfl
  setSeq := by rintro s _ c v ⟨rfl, h⟩; exact ⟨rfl, h.consistent_after rfl rfl rfl rfl rfl, h.idle, h.opened⟩
  setMode := by rintro s _ c v ⟨rfl, h⟩; exact ⟨rfl, h.consistent_after rfl rfl rfl rfl rfl, h.idle, h.opened⟩
  waitMs := by rintro s _ ms ⟨rfl, h⟩; exact ⟨rfl, h.consistent_after rfl rfl rfl rfl rfl, h.idle, h.opened⟩
  setSession := by rintro s _ v ⟨rfl, h⟩; exact ⟨rfl, h.consistent_after rfl rfl rfl rfl rfl⟩
  report := by rintro s _ r ⟨rfl, h⟩; exact ⟨rfl, consistent_report h r⟩
  txWrite := by rintro s _ frame ⟨rfl, h⟩; exact txWrite_running h frame
  rxRead := by rintro s _ x hx ⟨rfl, h⟩; exact rxRead_running h.consistent h.opened hx _ _ _
  close := by rintro s _ ⟨rfl, h⟩; exact closeTransport_running h

theorem Answers.consistent {o : Out} {t : State} (h : Answers (Twice Consistent) o o) (ht : o = .next t) :
    Consistent t := by
  obtain ⟨_, -, -, hc⟩ := h t ht
  exact hc

theorem arrive_consistent {s t : State} {bs : List Byte} (hs : Consistent s) (h : arrive bs s = .next t) :
    Consistent t := by
  cases hx : s.exchange with
  | none =>
    rw [arrive_idle hx] at h
    cases h
    exact consistent_of_idle hs rfl rfl rfl hx (hs.idleBuf hx)
  | some x =>
    obtain ⟨-, -, ho, -, hlegal⟩ := hs.waiting x hx
    exact (arrive_answers running_simulation hx hx (rxRead_running hs ho hlegal _ _ _)).consistent h

theorem exec_consistent {s t : State} {i : Instr} (hs : Consistent s) (h : exec i s = .next t) : Consistent t := by
  cases exec_meaning i with
  | accepted hgo hm =>
    obtain ⟨hx, ho, hrun⟩ := accept_next ((hm s).symm.trans h)
    exact (hgo running_simulation ⟨rfl, hs, hx, ho⟩).consistent hrun
  | reply bs hm => exact arrive_consistent hs ((hm s).symm.trans h)
  | refusal e hm => cases (hm s).symm.trans h

theorem failAccess_consistent {s t : State} {moved : Nat} (hs : Consistent s) (h : failAccess moved s = .next t) :
    Consistent t := by
  obtain ⟨-, e⟩ | ⟨-, e⟩ := failAccess_cases moved s
  · cases e.symm.trans h
    exact hs
  · cases e.symm.trans h
    refine consistent_report ?_ _
    exact consistent_of_idle hs rfl rfl rfl rfl rfl

theorem takeReset_consistent {s t : State} {cfg : Config} (h : takeReset cfg s = .next t) : Consistent t := by
  obtain ⟨hl, e⟩ | ⟨-, e⟩ := takeReset_cases cfg s
  · cases e.symm.trans h
    exact consistent_reset hl s
  · cases e.symm.trans h

/-- Settles O59: the default configuration is legal and nothing is in flight. -/
theorem consistentAtReset : Obligations.ConsistentAtReset :=
  ⟨by decide, rfl, rfl, fun _ => rfl, nofun⟩

/-- Settles O60: by the event the step takes. -/
theorem stepKeepsConsistent : Obligations.StepKeepsConsistent := by
  intro s t hs h
  obtain ⟨-, -, rfl⟩ | ⟨w, rest, i, -, -, h⟩ | ⟨bs, rest, -, h⟩ | ⟨moved, rest, -, h⟩ | ⟨cfg, rest, -, h⟩ := step_next h
  · exact hs
  · exact exec_consistent (consistent_setInbox hs rest) h
  · exact arrive_consistent (consistent_setInbox hs rest) h
  · exact failAccess_consistent (consistent_setInbox hs rest) h
  · exact takeReset_consistent h

end Sys2Proof.Machine
end

section
/-! SUPPORT. `mode` is written and never read (spec 10_state R19): blocks that differ in `mode` alone go on differing in
`mode` alone. -/

namespace Sys2Proof.Machine

/-- The same block with `m` in its `mode` registers. -/
def State.withModes (s : State) (m : PerChan Mode) : State := { s with mode := m }

/-- The second block is the first but for `mode`. -/
def DiffersInMode (s s' : State) : Prop := ∃ m, s' = s.withModes m

theorem txWrite_differsInMode (frame : List Byte) (s : State) (m : PerChan Mode) :
    (txWrite frame s).Pairs DiffersInMode DiffersInMode (txWrite frame (s.withModes m)) := by
  unfold txWrite State.withModes
  cases s.verdicts.headD .completes with
  | completes => exact .ret () ⟨m, rfl⟩
  | fails moved => exact .raised _ ⟨m, rfl⟩

theorem closeTransport_differsInMode (s : State) (m : PerChan Mode) :
    (closeTransport s).Pairs DiffersInMode DiffersInMode (closeTransport (s.withModes m)) := by
  unfold closeTransport State.withModes
  cases s.verdicts.headD .completes with
  | completes => exact .ret () ⟨m, rfl⟩
  | fails moved => exact .raised _ ⟨m, rfl⟩

theorem rxRead_differsInMode (x : Exchange) (s : State) (m : PerChan Mode) :
    (rxRead x s).Pairs DiffersInMode DiffersInMode (rxRead x (s.withModes m)) := by
  unfold rxRead State.withModes
  cases s.verdicts.headD .completes with
  | fails moved => exact .raised _ ⟨m, rfl⟩
  | completes =>
    dsimp only
    split
    · exact .ret _ ⟨m, rfl⟩
    · exact .blocked ⟨m, rfl⟩

theorem mode_simulation : Simulation DiffersInMode DiffersInMode where
  ends h := h
  seq := by rintro s _ ⟨m, rfl⟩; rfl
  config := by rintro s _ ⟨m, rfl⟩; rfl
  cfgMaxPos := by rintro s _ ⟨m, rfl⟩; rfl
  cfgMaxVolt := by rintro s _ ⟨m, rfl⟩; rfl
  setSeq := by rintro s _ c v ⟨m, rfl⟩; exact ⟨m, rfl⟩
  setMode := by rintro s _ c v ⟨m, rfl⟩; exact ⟨m.set c v, rfl⟩
  waitMs := by rintro s _ ms ⟨m, rfl⟩; exact ⟨m, rfl⟩
  setSession := by rintro s _ v ⟨m, rfl⟩; exact ⟨m, rfl⟩
  report := by rintro s _ r ⟨m, rfl⟩; exact ⟨m, rfl⟩
  txWrite := by rintro s _ frame ⟨m, rfl⟩; exact txWrite_differsInMode frame s m
  rxRead := by rintro s _ x - ⟨m, rfl⟩; exact rxRead_differsInMode x s m
  close := by rintro s _ ⟨m, rfl⟩; exact closeTransport_differsInMode s m

theorem arrive_differsInMode (bs : List Byte) (s : State) (m : PerChan Mode) :
    Answers DiffersInMode (arrive bs s) (arrive bs (s.withModes m)) := by
  cases hx : s.exchange with
  | none =>
    have hx' : (s.withModes m).exchange = none := hx
    rw [arrive_idle hx, arrive_idle hx']
    exact answers_next ⟨m, rfl⟩
  | some x => exact arrive_answers mode_simulation hx hx (rxRead_differsInMode x _ m)

theorem exec_differsInMode (i : Instr) (s : State) (m : PerChan Mode) :
    Answers DiffersInMode (exec i s) (exec i (s.withModes m)) := by
  cases exec_meaning i with
  | accepted hgo hm =>
    intro t h
    obtain ⟨hx, ho, hrun⟩ := accept_next ((hm s).symm.trans h)
    have hx' : (s.withModes m).exchange = none := hx
    rw [hm, accept_open _ hx' ho]
    exact hgo mode_simulation ⟨m, rfl⟩ t hrun
  | reply bs hm =>
    rw [hm, hm]
    exact arrive_differsInMode bs s m
  | refusal e hm =>
    rw [hm]
    exact answers_refused

/-- Settles O52: by the simulation of blocks that differ in `mode`. -/
theorem modeDecidesNothing : Obligations.ModeDecidesNothing := by
  intro s t m i h
  obtain ⟨_, e, m', rfl⟩ := exec_differsInMode i s m t h
  exact ⟨m', e⟩

end Sys2Proof.Machine
end

section
/-! SUPPORT. What an instruction writes (spec 10_state R22, R31, R32; 43_channel_commands R129), from what its pseudocode
can write. -/

namespace Sys2Proof.Machine

open Safety Claims

/-- `t` follows `s` up to the report of the command. -/
def FollowsOrReports (ws wm wo : Bool) (s t : State) : Prop :=
  Follows ws wm wo s t ∨ ∃ u r, Follows ws wm wo s u ∧ t = report r u

theorem setRx_follows {ws wm wo : Bool} (x : Option Exchange) (buf stream : List Byte) (s : State) :
    Follows ws wm wo s (s.setRx x buf stream) :=
  ⟨rfl, rfl, rfl, rfl, rfl, ⟨[], by simp⟩, ⟨[], by simp⟩, fun _ => rfl, fun _ => rfl, fun _ => rfl⟩

theorem identifyBody_follows {ws wm wo : Bool} (s : State) : (identifyBody s).All (Follows ws wm wo s) :=
  Follows.andThen (txWrite_follows _ _) fun _ _ => Follows.rfl'

section
variable {ws wm wo : Bool} {s t : State}

theorem runCommand_follows {body : State → Run Result} (hbody : (body s).All (Follows ws wm wo s))
    (h : runCommand s body = .next t) : FollowsOrReports ws wm wo s t :=
  conclude_all hbody (runCommand_next h).2

theorem channelCommand_follows {ch : Byte} {body : Chan → State → Run Result}
    (hbody : ∀ c, (body c s).All (Follows ws wm wo s))
    (h : runCommand s (fun s => withChannel ch s body) = .next t) : FollowsOrReports ws wm wo s t :=
  runCommand_follows (withChannel_all Follows.rfl' hbody) h

theorem writeCommand_follows {ch : Byte} {body : Chan → State → Run Unit}
    (hbody : ∀ c, (body c s).All (Follows ws wm wo s))
    (h : runCommand s (fun s => withChannel ch s fun c s => (body c s).andThen noResult) = .next t) :
    FollowsOrReports ws wm wo s t :=
  channelCommand_follows (fun c => Follows.andThen (hbody c) fun _ u => noResult_all Follows.rfl' u) h

theorem answerUnit_follows {r : Except ErrorKind Result} (h : answerUnit s r = .next t) :
    FollowsOrReports ws wm wo s t :=
  .inr ⟨s, r, Follows.rfl', (answerUnit_next h).2.2⟩

theorem writeFrame_follows {i : Instr} (h : writeFrame i s = .next t) : FollowsOrReports ws wm wo s t := by
  obtain ⟨-, -, h⟩ := accept_next h
  split at h
  · have hf := txWrite_follows (ws := ws) (wm := wm) (wo := wo) (wireBytes (encode s.config i)) s
    cases hw : txWrite (wireBytes (encode s.config i)) s with
    | ret u a => rw [hw] at h hf; cases h; exact .inl hf
    | raised u e => rw [hw] at h hf; cases h; exact .inr ⟨u, _, hf, rfl⟩
    | blocked u => rw [hw] at h hf; cases h; exact .inl hf
  · cases h

/-- Bytes from the device: with no read outstanding nothing is written, otherwise what the waiting command may write. -/
theorem arrive_follows {bs : List Byte}
    (hflags : ∀ x, s.exchange = some x → ∀ reply u, (afterReply x reply u).All (Follows ws wm wo u))
    (h : arrive bs s = .next t) : FollowsOrReports ws wm wo s t := by
  cases hx : s.exchange with
  | none =>
    simp only [arrive, hx] at h
    cases h
    exact .inl (setRx_follows _ _ _ s)
  | some x =>
    simp only [arrive, hx] at h
    exact conclude_all ((Follows.andThen (rxRead_follows x _) fun u reply => hflags x hx reply u).imp fun _ hf =>
      (setRx_follows _ _ _ s).trans' hf) h

end

theorem exec_follows {s t : State} {i : Instr} (h : exec i s = .next t) :
    FollowsOrReports (writesSeq s i) (writesMode s i) (isShutdown s i) s t := by
  cases i with
  | frameIdentify | frameEnable | frameDisable | frameReqEnable | frameSetMode | frameReqMode | frameReqVolt
  | frameReqPos | frameZero | frameSetVolt | frameSetPos => exact writeFrame_follows h
  | reply6 | reply10 =>
    refine arrive_follows (fun x hx reply u => ?_) h
    have hrest := afterReply_follows x reply u
    simp only [writesSeq, writesMode, isShutdown, hx]
    cases x <;> exact hrest
  | identify => exact runCommand_follows (identifyBody_follows s) h
  | enable ch => exact writeCommand_follows (fun c => enableBody_follows c s) h
  | disable ch => exact writeCommand_follows (fun c => disableBody_follows c s) h
  | setMode ch closed => exact writeCommand_follows (fun c => setModeBody_follows c closed s) h
  | zero ch => exact writeCommand_follows (fun c => zeroBody_follows c s) h
  | pollZero ch => exact channelCommand_follows (fun c => pollZeroBody_follows c s) h
  | position ch pos => exact channelCommand_follows (fun c => positionBody_follows pos c s) h
  | setVolt ch volts => exact writeCommand_follows (fun c => setVoltBody_follows volts 1 c s) h
  | rampVolt ch target steps delayMs => exact writeCommand_follows (fun c => rampBody_follows _ _ _ _ c s) h
  | shutdown =>
    refine runCommand_follows (body := fun s => (shutdownFrom [.ch1, .ch2, .ch3] s).andThen noResult) ?_ h
    exact Follows.andThen (shutdownFrom_follows _ s) fun _ u => noResult_all Follows.rfl' u
  | getMode ch | getEnable ch | getPosition ch | getVolt ch =>
    refine channelCommand_follows (fun c => ?_) h
    exact Follows.andThen (query_follows _ c _ s) fun _ _ => Follows.rfl'
  | decodeRaw raw =>
    simp only [exec, execDecodeRaw] at h
    split at h
    · exact answerUnit_follows h
    · cases h
  | encodeShort | encodeLong | pos2Scaled | scaled2Pos | volt2Scaled | scaled2Volt | bayAddr | int2b1 | int2b2 | b2u16
  | b2i16 => exact answerUnit_follows h
  | reserved0E | reserved0F | reserved1C | reserved1D | reserved1E | reserved1F => cases h

/-- Settles O49: the pseudocode writes no more than its flags say, and the report after it adds one event. -/
theorem writeTableOfTheRegisters : Obligations.WriteTableOfTheRegisters := by
  intro s t i h
  obtain hf | ⟨u, r, hf, rfl⟩ := exec_follows h
  · exact ⟨hf.config, hf.cfgMaxPos, hf.cfgMaxVolt, hf.inbox, hf.seq, hf.mode, hf.session, hf.history, hf.txStream⟩
  · obtain ⟨es, hes⟩ := hf.history
    exact ⟨hf.config, hf.cfgMaxPos, hf.cfgMaxVolt, hf.inbox, hf.seq, hf.mode, hf.session,
      ⟨es ++ [reportEvent r], by simp [hes]⟩, hf.txStream⟩

/-! ### The registers of another channel (R129) -/

/-- `t` has the registers of channel `d` as `s` has them. -/
def KeepsChannel (d : Chan) (s t : State) : Prop := t.seq.get d = s.seq.get d ∧ t.mode.get d = s.mode.get d

section
variable {c d : Chan} {s t : State}

theorem Follows.keepsChannel {wo : Bool} (h : Follows false false wo s t) (d : Chan) : KeepsChannel d s t :=
  ⟨by rw [h.seq rfl], by rw [h.mode rfl]⟩

theorem KeepsChannel.trans {u : State} (h : KeepsChannel d s t) (k : KeepsChannel d t u) : KeepsChannel d s u :=
  ⟨k.1.trans h.1, k.2.trans h.2⟩

theorem setSeq_keepsChannel (hd : d ≠ c) (v : Seq) : KeepsChannel d s (s.setSeq c v) :=
  ⟨PerChan.get_set_other _ _ hd, rfl⟩

theorem setMode_keepsChannel (hd : d ≠ c) (v : Mode) : KeepsChannel d s (s.setMode c v) :=
  ⟨rfl, PerChan.get_set_other _ _ hd⟩

theorem KeepsChannel.andThen {α β : Type} {r : Run α} {f : State → α → Run β} (hr : r.All (KeepsChannel d s))
    (hf : ∀ t a, (f t a).All (KeepsChannel d t)) : (r.andThen f).All (KeepsChannel d s) :=
  Run.all_andThen hr fun t a h => (hf t a).imp fun _ k => h.trans k

theorem sendShort_keepsChannel (opcode : Word16) (p2 : Int) : (sendShort opcode c p2 s).All (KeepsChannel d s) :=
  (sendShort_follows opcode c p2 s).imp fun _ h => h.keepsChannel (wo := false) d

theorem enableBody_keepsChannel (hd : d ≠ c) : (enableBody c s).All (KeepsChannel d s) :=
  KeepsChannel.andThen (sendShort_keepsChannel _ _) fun _ _ => setSeq_keepsChannel hd _

theorem disableBody_keepsChannel (hd : d ≠ c) : (disableBody c s).All (KeepsChannel d s) :=
  KeepsChannel.andThen (sendShort_keepsChannel _ _) fun _ _ => setSeq_keepsChannel hd _

theorem setModeBody_keepsChannel (hd : d ≠ c) (closed : Bool) : (setModeBody c closed s).All (KeepsChannel d s) :=
  KeepsChannel.andThen (sendShort_keepsChannel _ _) fun _ _ => setMode_keepsChannel hd _

theorem zeroBody_keepsChannel (hd : d ≠ c) : (zeroBody c s).All (KeepsChannel d s) :=
  KeepsChannel.andThen (enableBody_keepsChannel hd) fun _ _ =>
    KeepsChannel.andThen (sendShort_keepsChannel _ _) fun _ _ => setSeq_keepsChannel hd _

theorem pollZeroBody_keepsChannel (hd : d ≠ c) : (pollZeroBody c s).All (KeepsChannel d s) := by
  have hquery : (query opQueryMode c (.pollZero c) s).All (KeepsChannel d s) :=
    (query_follows _ _ _ _).imp fun _ h => h.keepsChannel (wo := false) d
  refine KeepsChannel.andThen hquery fun u raw => ?_
  unfold pollFinish
  split
  · exact setSeq_keepsChannel hd _
  · exact ⟨rfl, rfl⟩

theorem channelCommand_keepsChannel {body : Chan → State → Run Result} (hbody : (body c s).All (KeepsChannel d s))
    (h : runCommand s (fun s => withChannel (chanByte c) s body) = .next t) : KeepsChannel d s t := by
  have hrun := (runCommand_next h).2
  rw [withChannel_chanByte] at hrun
  obtain hk | ⟨u, r, hk, rfl⟩ := conclude_all hbody hrun
  · exact hk
  · exact hk

theorem writeCommand_keepsChannel {body : Chan → State → Run Unit} (hbody : (body c s).All (KeepsChannel d s))
    (h : runCommand s (fun s => withChannel (chanByte c) s fun c s => (body c s).andThen noResult) = .next t) :
    KeepsChannel d s t :=
  channelCommand_keepsChannel (KeepsChannel.andThen hbody fun _ u => noResult_all ⟨rfl, rfl⟩ u) h

/-- An instruction that can write neither `seq` nor `mode` keeps every channel. -/
theorem keepsChannel_of_no_write {i : Instr} (hs : writesSeq s i = false) (hm : writesMode s i = false)
    (h : exec i s = .next t) (d : Chan) : KeepsChannel d s t := by
  obtain ⟨-, -, -, -, hseq, hmode, -⟩ := writeTableOfTheRegisters s t i h
  exact ⟨by rw [hseq hs], by rw [hmode hm]⟩

end

/-- Settles O50: five commands write a register, of the channel they name; the others write none. -/
theorem channelsAreIndependent : Obligations.ChannelsAreIndependent := by
  intro s t i c d hop hd h
  show KeepsChannel d s t
  cases i with
  | enable ch => cases hop; exact writeCommand_keepsChannel (enableBody_keepsChannel hd) h
  | disable ch => cases hop; exact writeCommand_keepsChannel (disableBody_keepsChannel hd) h
  | setMode ch closed => cases hop; exact writeCommand_keepsChannel (setModeBody_keepsChannel hd closed) h
  | zero ch => cases hop; exact writeCommand_keepsChannel (zeroBody_keepsChannel hd) h
  | pollZero ch => cases hop; exact channelCommand_keepsChannel (pollZeroBody_keepsChannel hd) h
  | position | getPosition | setVolt | getVolt | rampVolt | getMode | getEnable =>
    exact keepsChannel_of_no_write rfl rfl h d
  | _ => cases hop

end Sys2Proof.Machine
end

section
/-! SUPPORT. The state after reset and the views of it (spec 10_state R15, R20, R29, R30). -/

namespace Sys2Proof.Machine

open Safety

theorem Seq.code_inj {v w : Seq} : v.code = w.code ↔ v = w := by
  cases v <;> cases w <;> decide

theorem Mode.code_inj {v w : Mode} : v.code = w.code ↔ v = w := by
  cases v <;> cases w <;> decide

theorem statusPort_seq_get (s : State) (c : Chan) : (statusPort s).seq.get c = (s.seq.get c).code := by
  cases c <;> rfl

theorem statusPort_mode_get (s : State) (c : Chan) : (statusPort s).mode.get c = (s.mode.get c).code := by
  cases c <;> rfl

/-- Settles O1: `State.reset` holds the listed values. -/
theorem resetLeavesTheListedValues : Obligations.ResetLeavesTheListedValues :=
  ⟨fun c => by cases c <;> rfl, fun c => by cases c <;> rfl, rfl, rfl, rfl, rfl, rfl, rfl⟩

/-- Settles O48: the encodings of R15 are one to one. -/
theorem viewsOfTheSequencer : Obligations.ViewsOfTheSequencer := by
  intro s c
  rw [statusPort_seq_get, statusPort_mode_get]
  have hbay : bayAddress ((chanByte c).toNat : Int) = .ok (bay c) := by rw [bayAddress, chanOf_chanByte]
  exact ⟨bne_iff_ne, beq_iff_eq, hbay, Seq.code_inj (w := .disabled), Seq.code_inj (w := .enabled),
    Seq.code_inj (w := .zeroRequested), Seq.code_inj (w := .closedLoopReady), Mode.code_inj (w := .openLoop),
    Mode.code_inj (w := .closedLoop), rfl, rfl, rfl⟩

end Sys2Proof.Machine
end

section
/-! SUPPORT. Which frames the pseudocode of a command sends (spec 20_memory R37; 30_encoding R67, R73): a walk over the
pseudocode of every command, each frame it builds a row of R67. -/

namespace Sys2Proof.Machine

open Safety

/-! ### Scaled values that are not negative (R101, R103, R105) -/

theorem roundQ_nonneg (tie : TieRule) {n : Int} (h : 0 ≤ n) (d : Nat) : 0 ≤ roundQ tie n d := by
  have hf : 0 ≤ n / (d : Int) := Int.ediv_nonneg h (by omega)
  unfold roundQ
  cases tie <;> dsimp only <;> split_ifs <;> omega

/-- What passes the ScaledValue check is the value itself, within the range (R103, R105). -/
theorem checkScaled_ok {z w : Int} (h : checkScaled z = .ok w) : w = z ∧ w ≤ 32767 := by
  unfold checkScaled at h
  split at h
  · cases h
  · rename_i hrange
    cases h
    exact ⟨rfl, not_lt.1 (not_or.1 hrange).2⟩

/-! ### Built frames are listed -/

theorem isBlockFrame_of_shortFrame {cfg : Config} {r : Word16 × Int} (hr : r ∈ shortRows cfg) {c : Chan}
    {frame : List Byte} (h : shortFrame cfg r.1 c r.2 = .ok frame) : isBlockFrame cfg frame = true := by
  rw [shortFrame_ok h, isBlockFrame_short_iff]
  exact ⟨rfl, .inr ⟨c, rfl, rfl, r, hr, rfl⟩⟩

theorem isBlockFrame_of_longFrame {cfg : Config} {op : Word16} (ho : op ∈ longRows) {c : Chan} {z : Int}
    (h0 : 0 ≤ z) (h1 : z ≤ 32767) {frame : List Byte} (h : longFrame cfg op c z = .ok frame) :
    isBlockFrame cfg frame = true := by
  have hz : ((tc16 z).toNat : Int) = z := by
    simp only [tc16, BitVec.toNat_ofInt]
    omega
  have hvalue : word16 (valueLo frame) (valueHi frame) = tc16 z := by
    rw [longFrame_ok h]
    exact word16_lo_hi _
  apply isBlockFrame_of_isListedFrame
  simp only [isListedFrame, Bool.or_eq_true, Bool.and_eq_true, List.any_eq_true, isBuilt_iff, decide_eq_true_eq,
    hvalue, hz]
  exact .inr ⟨by omega, c, by cases c <;> decide, op, ho, h⟩

theorem isBlockFrame_identify (cfg : Config) :
    isBlockFrame cfg (encodeShort opIdentify cfg.identP1 cfg.identP2 controllerAddr hostAddr) = true :=
  (isBlockFrame_short_iff ..).2 ⟨rfl, .inl rfl⟩

/-! ### What keeps the frames of the history listed -/

/-- The configuration stays, and with only listed frames in the history of `s` there are only such in that of `t`. -/
def KeepsListed (s t : State) : Prop := t.config = s.config ∧ (onlyBlockFrames s = true → onlyBlockFrames t = true)

theorem onlyBlockFrames_log (s : State) (e : Event) :
    onlyBlockFrames (s.log e) = (onlyBlockFrames s && (txFrames [e]).all (isBlockFrame s.config)) := by
  simp [onlyBlockFrames, txFrames_append]

section
variable {s t : State}

theorem KeepsListed.rfl' : KeepsListed s s := ⟨rfl, id⟩

theorem KeepsListed.trans {u : State} (h : KeepsListed s t) (k : KeepsListed t u) : KeepsListed s u :=
  ⟨k.1.trans h.1, fun hs => k.2 (h.2 hs)⟩

theorem KeepsListed.andThen {α β : Type} {r : Run α} {f : State → α → Run β} (hr : r.All (KeepsListed s))
    (hf : ∀ t a, (f t a).All (KeepsListed t)) : (r.andThen f).All (KeepsListed s) :=
  Run.all_andThen hr fun t a h => (hf t a).imp fun _ k => h.trans k

/-- An event that is no frame. -/
theorem log_keepsListed {e : Event} (he : txFrames [e] = []) : KeepsListed s (s.log e) :=
  ⟨rfl, fun h => by rw [onlyBlockFrames_log, h, he]; rfl⟩

theorem report_keepsListed (r : Except ErrorKind Result) : KeepsListed s (report r s) := by
  cases r with
  | ok a => exact log_keepsListed (s := s.setResponse _) rfl
  | error e => exact log_keepsListed (s := s.setResponse _) rfl

theorem log_tx_keepsListed {frame : List Byte} (hframe : isBlockFrame s.config frame = true) :
    KeepsListed s (s.log (.tx frame)) :=
  ⟨rfl, fun h => by rw [onlyBlockFrames_log, h]; simpa [txFrames] using hframe⟩

theorem txWrite_keepsListed {frame : List Byte} (hframe : isBlockFrame s.config frame = true) :
    (txWrite frame s).All (KeepsListed s) := by
  obtain ⟨-, e⟩ | ⟨moved, -, e⟩ := txWrite_cases frame s
  · rw [e]
    exact log_tx_keepsListed (s := s.popVerdict.emit frame) hframe
  · rw [e]
    exact KeepsListed.rfl'

theorem rxRead_keepsListed (x : Exchange) : (rxRead x s).All (KeepsListed s) := by
  obtain ⟨moved, -, e⟩ | ⟨-, -, e⟩ | ⟨-, -, e⟩ := rxRead_cases x s
  · rw [e]
    exact KeepsListed.rfl'
  · rw [e]
    exact log_keepsListed (s := s.popVerdict.setRx _ _ _) rfl
  · rw [e]
    exact KeepsListed.rfl'

theorem closeTransport_keepsListed : (closeTransport s).All (KeepsListed s) := by
  obtain ⟨-, e⟩ | ⟨moved, -, e⟩ := closeTransport_cases s
  · rw [e]
    exact log_keepsListed (s := s.popVerdict) rfl
  · rw [e]
    exact KeepsListed.rfl'

/-! ### The pseudocode of the commands -/

/-- Goes on with a value under the facts that its computation gives. -/
theorem liftExcept_andThen_all {α β : Type} {P : State → Prop} {e : Except ErrorKind α} {f : State → α → Run β}
    (hs : P s) (hf : ∀ a, e = .ok a → (f s a).All P) : ((liftExcept s e).andThen f).All P := by
  cases e with
  | ok a => exact hf a rfl
  | error e => exact hs

theorem sendShort_keepsListed {opcode : Word16} {p2 : Int} (c : Chan) (hr : (opcode, p2) ∈ shortRows s.config) :
    (sendShort opcode c p2 s).All (KeepsListed s) :=
  liftExcept_andThen_all KeepsListed.rfl' fun _ h => txWrite_keepsListed (isBlockFrame_of_shortFrame hr h)

theorem sendLong_keepsListed {opcode : Word16} (ho : opcode ∈ longRows) (c : Chan) {z : Int} (h0 : 0 ≤ z)
    (h1 : z ≤ 32767) : (sendLong opcode c z s).All (KeepsListed s) :=
  liftExcept_andThen_all KeepsListed.rfl' fun _ h => txWrite_keepsListed (isBlockFrame_of_longFrame ho h0 h1 h)

theorem query_keepsListed {opcode : Word16} (c : Chan) (x : Exchange)
    (hr : (opcode, s.config.queryP2) ∈ shortRows s.config) : (query opcode c x s).All (KeepsListed s) :=
  KeepsListed.andThen (sendShort_keepsListed c hr) fun _ _ => rxRead_keepsListed x

theorem identifyBody_keepsListed : (identifyBody s).All (KeepsListed s) :=
  KeepsListed.andThen (txWrite_keepsListed (isBlockFrame_identify _)) fun _ _ => KeepsListed.rfl'

theorem enableBody_keepsListed (c : Chan) : (enableBody c s).All (KeepsListed s) :=
  KeepsListed.andThen (sendShort_keepsListed c (by simp [shortRows])) fun _ _ => KeepsListed.rfl'

theorem disableBody_keepsListed (c : Chan) : (disableBody c s).All (KeepsListed s) :=
  KeepsListed.andThen (sendShort_keepsListed c (by simp [shortRows])) fun _ _ => KeepsListed.rfl'

theorem setModeBody_keepsListed (c : Chan) (closed : Bool) : (setModeBody c closed s).All (KeepsListed s) := by
  refine KeepsListed.andThen (sendShort_keepsListed c ?_) fun _ _ => KeepsListed.rfl'
  cases closed <;> simp [shortRows, modeCode]

theorem zeroBody_keepsListed (c : Chan) : (zeroBody c s).All (KeepsListed s) :=
  KeepsListed.andThen (enableBody_keepsListed c) fun _ _ =>
    KeepsListed.andThen (sendShort_keepsListed c (by simp [shortRows])) fun _ _ => KeepsListed.rfl'

theorem pollFinish_keepsListed (c : Chan) (raw : List Byte) : (pollFinish c raw s).All (KeepsListed s) := by
  unfold pollFinish
  split
  · exact KeepsListed.rfl'
  · exact KeepsListed.rfl'

theorem positionBody_keepsListed (pos : Int) (c : Chan) : (positionBody pos c s).All (KeepsListed s) := by
  unfold positionBody
  split
  · exact KeepsListed.rfl'
  · split
    · exact KeepsListed.rfl'
    · refine liftExcept_andThen_all KeepsListed.rfl' fun z hz => ?_
      obtain ⟨rfl, h1⟩ := checkScaled_ok hz
      exact KeepsListed.andThen (sendLong_keepsListed (by decide) c (roundQ_nonneg _ (by simp; omega) _) h1)
        fun _ _ => KeepsListed.rfl'

theorem setVoltBody_keepsListed (num : Int) (den : Nat) (c : Chan) : (setVoltBody num den c s).All (KeepsListed s) := by
  unfold setVoltBody
  split
  · exact KeepsListed.rfl'
  · refine liftExcept_andThen_all KeepsListed.rfl' fun z hz => ?_
    obtain ⟨rfl, h1⟩ := checkScaled_ok hz
    exact sendLong_keepsListed (by decide) c (roundQ_nonneg _ (by simp; omega) _) h1

theorem rampFinish_keepsListed (target : Int) (steps : Nat) (delayMs : Word32) (c : Chan) (reply : List Byte) :
    (rampFinish target steps delayMs c reply s).All (KeepsListed s) := by
  suffices h : ∀ raw k (s : State), (rampSetPoints raw target steps delayMs c k s).All (KeepsListed s) from h _ _ s
  intro raw k
  induction k with
  | zero => exact fun s => setVoltBody_keepsListed _ _ c
  | succ k ih =>
    exact fun s => KeepsListed.andThen (setVoltBody_keepsListed _ _ c) fun t _ =>
      (ih (waitMs delayMs t)).imp fun _ h => (log_keepsListed rfl).trans h

theorem rampBody_keepsListed (target : Int) (steps : Nat) (delayMs : Word32) (x : Exchange) (c : Chan) :
    (rampBody target steps delayMs x c s).All (KeepsListed s) :=
  liftExcept_andThen_all KeepsListed.rfl' fun _ _ =>
    KeepsListed.andThen (query_keepsListed c x (by simp [shortRows])) fun _ reply =>
      rampFinish_keepsListed _ _ _ c reply

theorem shutdownFrom_keepsListed (cs : List Chan) (s : State) : (shutdownFrom cs s).All (KeepsListed s) := by
  induction cs generalizing s with
  | nil => exact KeepsListed.andThen closeTransport_keepsListed fun _ _ => KeepsListed.rfl'
  | cons c cs ih =>
    exact KeepsListed.andThen (setModeBody_keepsListed c false) fun _ _ =>
      KeepsListed.andThen (rampBody_keepsListed _ _ _ _ c) fun t _ => ih t

theorem afterReply_keepsListed (x : Exchange) (reply : List Byte) : (afterReply x reply s).All (KeepsListed s) := by
  cases x with
  | pollZero c => exact pollFinish_keepsListed c reply
  | getMode | getEnable | getPosition | getVolt => exact KeepsListed.rfl'
  | ramp c target steps delayMs =>
    exact KeepsListed.andThen (rampFinish_keepsListed _ _ _ c reply) fun _ _ => KeepsListed.rfl'
  | shutdown c =>
    exact KeepsListed.andThen (KeepsListed.andThen (rampFinish_keepsListed _ _ _ c reply) fun t _ =>
      shutdownFrom_keepsListed _ t) fun _ _ => KeepsListed.rfl'

/-! ### Meanings -/

theorem conclude_keepsListed {r : Run Result} (hr : r.All (KeepsListed s)) (h : conclude r = .next t) :
    KeepsListed s t := by
  obtain hk | ⟨u, a, hk, rfl⟩ := conclude_all hr h
  · exact hk
  · exact hk.trans (report_keepsListed a)

theorem runCommand_keepsListed {body : State → Run Result} (hbody : (body s).All (KeepsListed s))
    (h : runCommand s body = .next t) : KeepsListed s t :=
  conclude_keepsListed hbody (runCommand_next h).2

theorem channelCommand_keepsListed {ch : Byte} {body : Chan → State → Run Result}
    (hbody : ∀ c, (body c s).All (KeepsListed s))
    (h : runCommand s (fun s => withChannel ch s body) = .next t) : KeepsListed s t :=
  runCommand_keepsListed (withChannel_all KeepsListed.rfl' hbody) h

/-- A channel command that returns no value. -/
theorem writeCommand_keepsListed {ch : Byte} {body : Chan → State → Run Unit}
    (hbody : ∀ c, (body c s).All (KeepsListed s))
    (h : runCommand s (fun s => withChannel ch s fun c s => (body c s).andThen noResult) = .next t) :
    KeepsListed s t :=
  channelCommand_keepsListed (fun c => KeepsListed.andThen (hbody c) fun _ u => noResult_all KeepsListed.rfl' u) h

theorem answerUnit_keepsListed {r : Except ErrorKind Result} (h : answerUnit s r = .next t) : KeepsListed s t := by
  obtain ⟨-, -, rfl⟩ := answerUnit_next h
  exact report_keepsListed r

theorem writeFrame_keepsListed {i : Instr} (h : writeFrame i s = .next t) : KeepsListed s t := by
  obtain ⟨-, -, hl, -, e⟩ | ⟨-, -, -, moved, -, e⟩ | ⟨-, -, -, e⟩ | ⟨-, -, e⟩ | ⟨-, e⟩ := writeFrame_cases i s
  · cases e.symm.trans h
    exact log_tx_keepsListed (s := s.popVerdict.emit _) (isBlockFrame_of_isListedFrame hl)
  · cases e.symm.trans h
    exact report_keepsListed (s := s.popVerdict.emit _) _
  · cases e.symm.trans h
  · cases e.symm.trans h
  · cases e.symm.trans h

theorem arrive_keepsListed {bs : List Byte} (h : arrive bs s = .next t) : KeepsListed s t := by
  cases hx : s.exchange with
  | none =>
    cases (arrive_idle hx bs).symm.trans h
    exact KeepsListed.rfl'
  | some x =>
    simp only [arrive, hx] at h
    exact conclude_keepsListed (s := s.setRx (some x) s.rxBuf (s.rxStream ++ bs))
      (KeepsListed.andThen (rxRead_keepsListed x) fun _ reply => afterReply_keepsListed x reply) h

theorem failAccess_keepsListed {moved : Nat} (h : failAccess moved s = .next t) : KeepsListed s t := by
  obtain ⟨-, e⟩ | ⟨-, e⟩ := failAccess_cases moved s
  · cases e.symm.trans h
    exact KeepsListed.rfl'
  · cases e.symm.trans h
    exact report_keepsListed _

theorem exec_keepsListed {i : Instr} (h : exec i s = .next t) : KeepsListed s t := by
  cases i with
  | frameIdentify | frameEnable | frameDisable | frameReqEnable | frameSetMode | frameReqMode | frameReqVolt
  | frameReqPos | frameZero | frameSetVolt | frameSetPos => exact writeFrame_keepsListed h
  | reply6 | reply10 => exact arrive_keepsListed h
  | identify => exact runCommand_keepsListed identifyBody_keepsListed h
  | enable ch => exact writeCommand_keepsListed enableBody_keepsListed h
  | disable ch => exact writeCommand_keepsListed disableBody_keepsListed h
  | setMode ch closed => exact writeCommand_keepsListed (fun c => setModeBody_keepsListed c closed) h
  | zero ch => exact writeCommand_keepsListed zeroBody_keepsListed h
  | setVolt ch volts => exact writeCommand_keepsListed (setVoltBody_keepsListed volts 1) h
  | rampVolt ch target steps delayMs => exact writeCommand_keepsListed (fun c => rampBody_keepsListed _ _ _ _ c) h
  | position ch pos => exact channelCommand_keepsListed (positionBody_keepsListed pos) h
  | pollZero ch =>
    refine channelCommand_keepsListed (fun c => ?_) h
    exact KeepsListed.andThen (query_keepsListed c _ (by simp [shortRows])) fun _ raw => pollFinish_keepsListed c raw
  | getMode ch | getEnable ch | getPosition ch | getVolt ch =>
    refine channelCommand_keepsListed (fun c => ?_) h
    exact KeepsListed.andThen (query_keepsListed c _ (by simp [shortRows])) fun _ _ => KeepsListed.rfl'
  | shutdown =>
    refine runCommand_keepsListed (body := fun s => (shutdownFrom [.ch1, .ch2, .ch3] s).andThen noResult) ?_ h
    exact KeepsListed.andThen (shutdownFrom_keepsListed _ s) fun _ _ => KeepsListed.rfl'
  | decodeRaw raw =>
    simp only [exec, execDecodeRaw] at h
    split at h
    · exact answerUnit_keepsListed h
    · cases h
  | encodeShort | encodeLong | pos2Scaled | scaled2Pos | volt2Scaled | scaled2Volt | bayAddr | int2b1 | int2b2 | b2u16
  | b2i16 => exact answerUnit_keepsListed h
  | reserved0E | reserved0F | reserved1C | reserved1D | reserved1E | reserved1F => cases h

end

/-- Settles O57: by the event the step takes; a reset empties the history. -/
theorem onlyListedFramesAreSent : Obligations.OnlyListedFramesAreSent := by
  intro s t hs h
  obtain ⟨-, -, rfl⟩ | ⟨w, rest, i, -, -, h⟩ | ⟨bs, rest, -, h⟩ | ⟨moved, rest, -, h⟩ | ⟨cfg, rest, -, h⟩ := step_next h
  · exact hs
  · exact (exec_keepsListed h).2 hs
  · exact (arrive_keepsListed h).2 hs
  · exact (failAccess_keepsListed h).2 hs
  · obtain ⟨-, e⟩ | ⟨-, e⟩ := takeReset_cases cfg (s.setInbox rest)
    · cases e.symm.trans h
      rfl
    · cases e.symm.trans h

end Sys2Proof.Machine
end

section
/-! SUPPORT. The frame instructions (spec 20_memory R44, R46; 30_encoding R67, R73): the write of a listed frame, its
failure, and what is refused. -/

namespace Sys2Proof.Machine

open Safety Claims

theorem isListedFrame_eq_isBlockFrame {cfg : Config} (hl : configLegal cfg = true) (bs : List Byte) :
    isListedFrame cfg bs = isBlockFrame cfg bs :=
  Bool.eq_iff_iff.2 ⟨isBlockFrame_of_isListedFrame, isListedFrame_of_isBlockFrame hl⟩

section
variable {s : State} {i : Instr} {bs : List Byte}

/-- An accepted frame instruction is the write of its frame, where that is listed, and refused otherwise (R44, R73). -/
theorem exec_frame_accepted (he : encode s.config i = .toDevice bs) (hx : s.exchange = none)
    (ho : s.sessionOpen = true) :
    exec i s = if isListedFrame s.config bs then concludeWrite (txWrite bs s) else .refused .frameNotListed := by
  rw [exec_of_toDevice he, writeFrame, accept_open _ hx ho, he]
  rfl

theorem txWrite_fails {moved : Nat} {vs : List Verdict} (hv : s.verdicts = .fails moved :: vs) (frame : List Byte) :
    txWrite frame s =
      .raised { s with txStream := s.txStream ++ frame.take moved, verdicts := vs } .transportFailure := by
  simp only [txWrite, hv, List.headD_cons, State.popVerdict, State.emit, List.tail_cons]

theorem exec_frame_writes (he : encode s.config i = .toDevice bs) (hx : s.exchange = none) (ho : s.sessionOpen = true)
    (hv : NoFailure s) (hb : isListedFrame s.config bs = true) : exec i s = wrote bs s := by
  rw [exec_frame_accepted he hx ho, if_pos hb, txWrite_completes (headD_completes hv)]
  rfl

end

@[simp] theorem shortDest_chanField (c : Chan) : shortDest (chanField c) = bay c := by
  cases c <;> rfl

@[simp] theorem longDest_chanField (c : Chan) : longDest (chanField c) = bay c ||| dataBit := by
  cases c <;> rfl

/-- Settles O10: a frame instruction is accepted or not, its frame listed or not. -/
theorem frameWritesFailOrAreRefused : Obligations.FrameWritesFailOrAreRefused := by
  intro s i bs he
  refine ⟨fun hl hb moved vs hx ho hv => ?_, fun hb hx ho => ?_, fun hx => ?_, fun hx ho => ?_⟩
  · rw [exec_frame_accepted he hx ho, isListedFrame_eq_isBlockFrame hl, if_pos hb, txWrite_fails hv]
    rfl
  · have hlisted : ¬ isListedFrame s.config bs = true := fun h => by simp [isBlockFrame_of_isListedFrame h] at hb
    rw [exec_frame_accepted he hx ho, if_neg hlisted]
  · rw [exec_of_toDevice he, writeFrame, accept, if_pos (Option.isSome_iff_ne_none.2 hx)]
  · rw [exec_of_toDevice he, writeFrame, accept, hx, ho]
    rfl

/-- Settles O8: each instruction's frame is a row of R67. -/
theorem shortFramesAreWritten : Obligations.ShortFramesAreWritten := by
  intro s c hx ho hl hv ci q
  have hrow : ∀ (i : Instr) (opcode : Word16) (p2 : Int), (opcode, p2) ∈ shortRows s.config →
      encode s.config i = .toDevice (encodeShort opcode ci (tc8 p2) (shortDest (chanField c)) hostAddr) →
      exec i s = wrote [lo opcode, hi opcode, ci, BitVec.ofInt 8 p2, bay c, 0x01] s := by
    intro i opcode p2 hr he
    rw [shortDest_chanField] at he
    exact exec_frame_writes he hx ho hv (isListedFrame_short hl c hr)
  refine ⟨?_, hrow _ opEnable _ ?_ rfl, hrow _ opEnable _ ?_ rfl, hrow _ opQueryEnable _ ?_ rfl, ?_,
    hrow _ opQueryMode _ ?_ rfl, hrow _ opQueryVoltage _ ?_ rfl, hrow _ opQueryPosition _ ?_ rfl,
    hrow _ opZero _ ?_ rfl⟩
  case refine_1 =>
    exact exec_frame_writes rfl hx ho hv (isListedFrame_of_isBlockFrame hl (isBlockFrame_identify _))
  case refine_5 =>
    rintro m (rfl | rfl)
    · exact hrow _ opSetMode s.config.modeCodeOpen (by simp [shortRows]) rfl
    · exact hrow _ opSetMode s.config.modeCodeClosed (by simp [shortRows]) rfl
  all_goals simp [shortRows]

/-- Settles O9: the frame is a long row of R67. -/
theorem longFramesAreWritten : Obligations.LongFramesAreWritten := by
  intro s c v hx ho hl hv hle ci v0 v1
  have hrow : ∀ (i : Instr) (opcode : Word16), opcode ∈ longRows →
      encode s.config i = .toDevice (longBytes opcode (chanField c) ci 0x00 v) →
      exec i s = wrote [lo opcode, hi opcode, 0x04, 0x00, bay c ||| 0x80, 0x01, ci, 0x00, v0, v1] s := by
    intro i opcode hop he
    rw [longBytes, longDest_chanField] at he
    exact exec_frame_writes he hx ho hv (isListedFrame_long hl c hop hle)
  exact ⟨hrow _ opSetVoltage (by decide) rfl, hrow _ opSetPosition (by decide) rfl⟩

end Sys2Proof.Machine
end

section
/-! SUPPORT. A reply that comes to a waiting query (spec 20_memory R45; 44_channel_queries R141 to R144). -/

namespace Sys2Proof.Machine

open Safety Claims

theorem getD_take {l : List Byte} {n k : Nat} (h : k < n) : (l.take n).getD k 0 = l.getD k 0 := by
  simp [List.getD_eq_getElem?_getD, h]

/-- The signed value of a reply (R59, R91). -/
theorem b2i16_eq_readingOf (reply : List Byte) : b2i16 (valueLo reply) (valueHi reply) = readingOf reply :=
  b2i16_eq_toInt _ _

@[simp] theorem readingOf_take (l : List Byte) : readingOf (l.take 10) = readingOf l := by
  simp only [readingOf, getD_take (by decide : 8 < 10), getD_take (by decide : 9 < 10)]

theorem pollFinish_ready {raw : List Byte} (h : statusByte raw = 0x02) (c : Chan) (s : State) :
    pollFinish c raw s = .ret (s.setSeq c .closedLoopReady) (.bool true) := if_pos h

theorem pollFinish_notReady {raw : List Byte} (h : statusByte raw ≠ 0x02) (c : Chan) (s : State) :
    pollFinish c raw s = .ret s (.bool false) := if_neg h

/-- A reply that completes the outstanding read ends it, and its command goes on (R45). -/
theorem exec_reply_completes {s : State} {i : Instr} {bs : List Byte} {x : Exchange}
    (he : encode s.config i = .fromDevice bs) (hv : NoFailure s) (hx : s.exchange = some x)
    (hl : replyLen x ≤ (s.rxBuf ++ s.rxStream ++ bs).length) :
    exec i s = conclude (afterReply x ((s.rxBuf ++ s.rxStream ++ bs).take (replyLen x))
      { s with
        exchange := none, rxBuf := [], rxStream := (s.rxBuf ++ s.rxStream ++ bs).drop (replyLen x)
        history := s.history ++ [.rx (replyLen x) ((s.rxBuf ++ s.rxStream ++ bs).take (replyLen x))]
        verdicts := s.verdicts.drop 1 }) := by
  rw [exec_of_fromDevice he, arrive_completes hx (headD_completes hv) hl, List.drop_one]

/-- Settles O12: any reply has the six bytes of a status. -/
theorem repliesAnswerStatusQueries : Obligations.RepliesAnswerStatusQueries := by
  intro s i bs c he hv got t
  have hlen : 6 ≤ got.length := by
    have := length_of_fromDevice he
    simp only [got, List.length_append]
    omega
  have hstatus : statusByte (got.take 6) = got.getD 3 0 := getD_take (by decide)
  refine ⟨?_, fun hx h2 => ?_, fun hx h2 => ?_⟩
  · rintro (hx | hx)
    · rw [exec_reply_completes he hv hx hlen, ← hstatus]
      rfl
    · rw [exec_reply_completes he hv hx hlen, ← hstatus]
      rfl
  · rw [exec_reply_completes he hv hx hlen]
    exact congrArg conclude (pollFinish_ready (hstatus.trans h2) c t)
  · rw [exec_reply_completes he hv hx hlen]
    exact congrArg conclude (pollFinish_notReady (hstatus.trans_ne h2) c t)

/-- Settles O13: with ten bytes the value, with fewer the block waits on. -/
theorem repliesAnswerValueQueries : Obligations.RepliesAnswerValueQueries := by
  intro s i bs c he hv got t
  refine ⟨fun hx hlen => ?_, fun hx hlen => ?_, fun x hx hx10 hlen => ?_⟩
  · rw [exec_reply_completes he hv hx hlen, ← getD_take (l := got) (by decide : 8 < 10),
      ← getD_take (l := got) (by decide : 9 < 10)]
    rfl
  · rw [exec_reply_completes he hv hx hlen]
    show conclude (voltFinish (got.take 10) t) = _
    rw [voltFinish, b2i16_eq_readingOf, readingOf_take]
    rfl
  · rw [exec_of_fromDevice he, arrive_waits hx (headD_completes hv) (by rwa [hx10])]

end Sys2Proof.Machine
end

section
/-! SUPPORT. The accounts of a transport that does not fail (spec 20_memory R42, R43, R48): a simulation of the block
with itself keeps both streams in step with the history. -/

namespace Sys2Proof.Machine

open Safety

/-- What the history of `t` adds to that of `s` accounts for the transmit stream and for every received byte. -/
def Accounts (s t : State) : Prop :=
  ∃ es, t.history = s.history ++ es ∧ t.txStream = s.txStream ++ (txFrames es).flatten ∧
    s.rxBuf ++ s.rxStream = rxBytes es ++ t.rxBuf ++ t.rxStream

/-- A state on the way from `s`, on a transport without failures. -/
def Accounted (s t : State) : Prop := NoFailure t ∧ Accounts s t

section
variable {s t u : State}

theorem Accounted.refl (h : NoFailure s) : Accounted s s :=
  ⟨h, [], by simp [txFrames, rxBytes]⟩

theorem Accounted.trans (h : Accounted s t) (k : Accounted t u) : Accounted s u := by
  obtain ⟨-, es, hh, htx, hrx⟩ := h
  obtain ⟨hv, fs, kh, ktx, krx⟩ := k
  exact ⟨hv, es ++ fs, by simp [kh, hh], by simp [ktx, htx, txFrames_append],
    by rw [hrx, rxBytes_append, List.append_assoc, krx]; simp⟩

/-- What touches neither the streams nor the history keeps the accounts. -/
theorem Accounted.of_eq (h : Accounted s t) (hv : u.verdicts = t.verdicts) (hh : u.history = t.history)
    (htx : u.txStream = t.txStream) (hb : u.rxBuf = t.rxBuf) (hrx : u.rxStream = t.rxStream) : Accounted s u :=
  h.trans ⟨noFailure_drop 0 h.1 hv, [], by simp [hh, htx, hb, hrx, txFrames, rxBytes]⟩

/-- An event that is neither a frame nor a read keeps them. -/
theorem Accounted.log (h : Accounted s t) {e : Event} (hf : txFrames [e] = []) (hr : rxBytes [e] = []) :
    Accounted s (t.log e) :=
  h.trans ⟨h.1, [e], by simp [hf, hr]⟩

theorem txWrite_accounted (h : Accounted s t) (frame : List Byte) :
    (txWrite frame t).Pairs (Twice (Accounted s)) (Twice (Accounted s)) (txWrite frame t) := by
  obtain ⟨-, e⟩ | ⟨moved, hv, -⟩ := txWrite_cases frame t
  · rw [e]
    exact .ret () ⟨rfl, h.trans ⟨noFailure_drop 1 h.1 (by simp), [.tx frame], by simp [txFrames, rxBytes]⟩⟩
  · cases (headD_completes h.1).symm.trans hv

theorem closeTransport_accounted (h : Accounted s t) :
    (closeTransport t).Pairs (Twice (Accounted s)) (Twice (Accounted s)) (closeTransport t) := by
  obtain ⟨-, e⟩ | ⟨moved, hv, -⟩ := closeTransport_cases t
  · rw [e]
    exact .ret () ⟨rfl, h.trans ⟨noFailure_drop 1 h.1 (by simp), [.close], by simp [txFrames, rxBytes]⟩⟩
  · cases (headD_completes h.1).symm.trans hv

/-- A read takes the bytes from the front, or holds them all. -/
theorem rxRead_accounted (h : Accounted s t) (x : Exchange) :
    (rxRead x t).Pairs (Twice (Accounted s)) (Twice (Accounted s)) (rxRead x t) := by
  obtain ⟨moved, hv, -⟩ | ⟨-, -, e⟩ | ⟨-, -, e⟩ := rxRead_cases x t
  · cases (headD_completes h.1).symm.trans hv
  · rw [e]
    refine .ret _ ⟨rfl, h.trans ⟨noFailure_drop 1 h.1 (by simp), [.rx _ _], rfl, ?_, ?_⟩⟩
    · simp [txFrames]
    · simp only [rxBytes, State.log_rxBuf, State.log_rxStream, State.setRx_rxBuf, State.setRx_rxStream, List.append_nil,
        List.take_append_drop]
  · rw [e]
    exact .blocked ⟨rfl, h.trans ⟨h.1, [], by simp [txFrames, rxBytes]⟩⟩

theorem report_accounted (h : Accounted s t) (r : Except ErrorKind Result) : Accounted s (report r t) := by
  have hresp : Accounted s (t.setResponse (responseOf t.config t.history.length r)) := h
  cases r with
  | ok a => exact hresp.log rfl rfl
  | error e => exact hresp.log rfl rfl

end

theorem accounted_simulation (s : State) : Simulation (Twice (Accounted s)) (Twice (Accounted s)) where
  ends h := h
  seq := by rintro t _ ⟨rfl, -⟩; rfl
  config := by rintro t _ ⟨rfl, -⟩; rfl
  cfgMaxPos := by rintro t _ ⟨rfl, -⟩; rfl
  cfgMaxVolt := by rintro t _ ⟨rfl, -⟩; rfl
  setSeq := by rintro t _ c v ⟨rfl, h⟩; exact ⟨rfl, h.of_eq rfl rfl rfl rfl rfl⟩
  setMode := by rintro t _ c v ⟨rfl, h⟩; exact ⟨rfl, h.of_eq rfl rfl rfl rfl rfl⟩
  waitMs := by rintro t _ ms ⟨rfl, h⟩; exact ⟨rfl, h.log rfl rfl⟩
  setSession := by rintro t _ v ⟨rfl, h⟩; exact ⟨rfl, h.of_eq rfl rfl rfl rfl rfl⟩
  report := by rintro t _ r ⟨rfl, h⟩; exact ⟨rfl, report_accounted h r⟩
  txWrite := by rintro t _ frame ⟨rfl, h⟩; exact txWrite_accounted h frame
  rxRead := by rintro t _ x - ⟨rfl, h⟩; exact rxRead_accounted h x
  close := by rintro t _ ⟨rfl, h⟩; exact closeTransport_accounted h

@[simp] theorem State.feed_nil (s : State) : s.feed [] = s := by
  simp only [State.feed, State.setRx, List.append_nil]

theorem arrive_accounts {s t : State} {bs : List Byte} (hv : NoFailure s) (h : arrive bs s = .next t) :
    Accounts (s.feed bs) t := by
  have hfed : Accounted (s.feed bs) (s.feed bs) := Accounted.refl hv
  cases hx : s.exchange with
  | none =>
    cases (arrive_idle hx bs).symm.trans h
    exact hfed.2
  | some x =>
    have hread := rxRead_accounted (t := s.setRx (some x) s.rxBuf (s.rxStream ++ bs)) hfed x
    obtain ⟨_, -, -, hacc⟩ := arrive_answers (accounted_simulation (s.feed bs)) hx hx hread t h
    exact hacc.2

/-- In a closed session the command port refuses everything (R180). -/
theorem exec_closed {i : Instr} (hport : onCommandPort i = true) :
    ∃ e, exec i (State.reset.setSession false) = .refused e := by
  cases i with
  | frameIdentify | frameEnable | frameDisable | frameReqEnable | frameSetMode | frameReqMode | frameReqVolt
  | frameReqPos | frameZero | frameSetVolt | frameSetPos | reply6 | reply10 => cases hport
  | decodeRaw raw =>
    simp only [exec, execDecodeRaw]
    cases decodeHeader raw <;> exact ⟨_, rfl⟩
  | _ => exact ⟨_, rfl⟩

/-- Whatever an instruction does is accounted for from the bytes there were, with those it brings itself: a reply its
own, anything on the command port none. -/
theorem exec_accounts {s t : State} {i : Instr} (hv : NoFailure s) (h : exec i s = .next t) :
    ∃ bs, (onCommandPort i = true → bs = []) ∧ Accounts (s.feed bs) t := by
  cases exec_meaning i with
  | accepted hgo hm =>
    obtain ⟨-, -, hrun⟩ := accept_next ((hm s).symm.trans h)
    obtain ⟨_, -, -, hacc⟩ := hgo (accounted_simulation s) ⟨rfl, Accounted.refl hv⟩ t hrun
    exact ⟨[], fun _ => rfl, by rw [State.feed_nil]; exact hacc.2⟩
  | reply bs hm =>
    refine ⟨bs, fun hport => ?_, arrive_accounts hv ((hm s).symm.trans h)⟩
    obtain ⟨e, he⟩ := exec_closed hport
    cases (hm _).symm.trans he
  | refusal e hm => cases (hm s).symm.trans h

/-- Settles O55: the transmit half of the accounts. -/
theorem wireFollowsTheHistory : Obligations.WireFollowsTheHistory := by
  intro s t i hv h
  obtain ⟨bs, -, es, hh, htx, -⟩ := exec_accounts hv h
  exact ⟨es, hh, htx⟩

/-- Settles O56: the receive half; nothing on the command port brings bytes of its own. -/
theorem receivedBytesAreConserved : Obligations.ReceivedBytesAreConserved := by
  intro s t i hv hport hb h
  obtain ⟨bs, hbs, es, hh, -, hrx⟩ := exec_accounts hv h
  rw [State.feed_rxBuf, State.feed_rxStream, hbs hport, hb, List.append_nil, List.nil_append] at hrx
  exact ⟨es, hh, hrx⟩

end Sys2Proof.Machine
end

section
/-! SUPPORT. The first frame of a command, the exchange of a query, and the writes and reads of them that fail (spec
20_memory R44 to R46; 30_encoding R67; 60_exceptions R165). -/

namespace Sys2Proof.Machine

open Safety Claims

/-! ### Transports that complete the next accesses -/

/-- The transport completes the next `m` accesses (R46). -/
def Completes (m : Nat) (s : State) : Prop := ∀ v ∈ s.verdicts.take m, v = .completes

theorem Completes.of_noFailure {s : State} (h : NoFailure s) (m : Nat) : Completes m s :=
  fun v hv => h v (List.mem_of_mem_take hv)

theorem Completes.of_replicate {s : State} {m : Nat} {vs : List Verdict}
    (h : s.verdicts = List.replicate m .completes ++ vs) : Completes m s := by
  intro v hv
  rw [h, List.take_left' List.length_replicate] at hv
  exact List.eq_of_mem_replicate hv

theorem Completes.headD {s : State} {m : Nat} (h : Completes (m + 1) s) : s.verdicts.headD .completes = .completes := by
  unfold Completes at h
  cases hv : s.verdicts with
  | nil => rfl
  | cons v vs => exact h v (by simp [hv])

theorem Completes.mono {s : State} {m n : Nat} (h : Completes n s) (hmn : m ≤ n) : Completes m s :=
  fun v hv => h v (List.take_subset_take_left s.verdicts hmn hv)

theorem Completes.after_played {s : State} {m k : Nat} {es : List Event} (h : Completes k s)
    (hk : accesses es + m ≤ k) : Completes m (played es s) := by
  intro v hv
  have hmem : v ∈ (s.verdicts.drop (accesses es)).take m := hv
  rw [List.take_drop] at hmem
  exact h.mono hk v (List.mem_of_mem_drop hmem)

/-! ### Scaled values within the range (R101, R103, R105) -/

theorem roundQ_le {tie : TieRule} {n m : Int} {d : Nat} (hd : 0 < d) (h : n ≤ m * d) : roundQ tie n d ≤ m := by
  have hd' : (0 : Int) < d := by omega
  have hdiv := Int.mul_ediv_add_emod n d
  have hmod := Int.emod_nonneg n hd'.ne'
  have hfloor : n / (d : Int) < m ∨ n / (d : Int) = m ∧ n % (d : Int) = 0 := by
    rcases lt_or_ge (n / (d : Int)) m with hlt | hge
    · exact .inl hlt
    · have hprod := mul_le_mul_of_nonneg_left hge hd'.le
      rw [mul_comm m] at h
      have hzero : n % (d : Int) = 0 := by omega
      have heq : (d : Int) * (n / d) = d * m := by omega
      exact .inr ⟨mul_left_cancel₀ hd'.ne' heq, hzero⟩
  unfold roundQ
  cases tie <;> dsimp only <;> split_ifs <;> omega

theorem checkScaled_of_range {z : Int} (h0 : 0 ≤ z) (h1 : z ≤ 32767) : checkScaled z = .ok z :=
  if_neg (not_or.2 ⟨by simp only [SCALED_MIN]; omega, not_lt.2 h1⟩)

/-! ### Frames of a channel -/

theorem shortRows_fit {cfg : Config} (h : configLegal cfg = true) {r : Word16 × Int} (hr : r ∈ shortRows cfg) :
    fitsByte r.2 = true := by
  obtain ⟨-, -, -, -, -, h1, h2, h3, h4, h5, -⟩ := (configLegal_iff cfg).1 h
  have all : ∀ r ∈ shortRows cfg, fitsByte r.2 = true := by simp [shortRows, h1, h2, h3, h4, h5]
  exact all r hr

section
variable {s : State} (hl : configLegal s.config = true)
include hl

/-- A row of R67 is written as it stands there. -/
theorem sendShort_eq {opcode : Word16} {p2 : Int} (hr : (opcode, p2) ∈ shortRows s.config) (c : Chan) :
    sendShort opcode c p2 s = txWrite (shortOf s.config c (lo opcode) (hi opcode) p2) s := by
  rw [sendShort, shortFrame_legal hl opcode c (shortRows_fit hl hr)]
  rfl

theorem sendLong_eq {opcode : Word16} (ho : opcode ∈ longRows) (c : Chan) {z : Int} (h0 : 0 ≤ z) (h1 : z ≤ 32767) :
    sendLong opcode c z s = txWrite (longOf s.config c (lo opcode) z) s := by
  have hhi : hi opcode = 0x06 := by
    rcases List.mem_pair.1 ho with rfl | rfl <;> rfl
  rw [sendLong, longFrame_legal hl opcode c h0 h1, hhi]
  rfl

/-- A set-point in range is scaled and written (R105, R128). -/
theorem setVoltBody_eq (hmax : s.cfgMaxVolt ≠ 0) {num : Int} {den : Nat} (hden : 0 < den) (h0 : 0 ≤ num)
    (h1 : num ≤ (s.cfgMaxVolt : Int) * den) (c : Chan) :
    setVoltBody num den c s =
      txWrite (longOf s.config c 0x43 (roundQ s.config.tie (num * 32767) (den * s.cfgMaxVolt))) s := by
  have hz0 : 0 ≤ roundQ s.config.tie (num * 32767) (den * s.cfgMaxVolt) := roundQ_nonneg _ (by omega) _
  have hz1 : roundQ s.config.tie (num * 32767) (den * s.cfgMaxVolt) ≤ 32767 := by
    refine roundQ_le (Nat.mul_pos hden (Nat.pos_of_ne_zero hmax)) ?_
    rw [mul_comm (32767 : Int), Nat.cast_mul, mul_comm (den : Int)]
    omega
  rw [setVoltBody, if_neg (by omega), voltToScaled, checkScaled_of_range hz0 hz1, liftExcept_ok, Run.andThen_ret,
    sendLong_eq hl (by decide) c hz0 hz1]
  rfl

theorem query_eq {opcode : Word16} (hr : (opcode, s.config.queryP2) ∈ shortRows s.config) (c : Chan) (x : Exchange) :
    query opcode c x s = (txWrite (shortOf s.config c (lo opcode) (hi opcode) s.config.queryP2) s).andThen
      fun t _ => rxRead x t := by
  rw [query, sendShort_eq hl hr c]

/-- A query whose reply is there reads it (R140). -/
theorem query_completes {opcode : Word16} (hr : (opcode, s.config.queryP2) ∈ shortRows s.config) (c : Chan)
    {x : Exchange} (hv : Completes 2 s) (hx : s.exchange = none) (hb : s.rxBuf = [])
    (hlen : replyLen x ≤ s.rxStream.length) :
    query opcode c x s = .ret (played [.tx (shortOf s.config c (lo opcode) (hi opcode) s.config.queryP2),
      .rx (replyLen x) (s.rxStream.take (replyLen x))] s) (s.rxStream.take (replyLen x)) := by
  have hv1 : Completes 1 (played [.tx (shortOf s.config c (lo opcode) (hi opcode) s.config.queryP2)] s) :=
    hv.after_played le_rfl
  rw [query_eq hl hr, txWrite_completes hv.headD, Run.andThen_ret, rxRead_completes hv1.headD hx hb hlen, played_played]
  rfl

/-- A query whose reply is not there has written its request and waits, all bytes in its buffer (R45, R179). -/
theorem query_waits {opcode : Word16} (hr : (opcode, s.config.queryP2) ∈ shortRows s.config) (c : Chan)
    {x : Exchange} (hv : Completes 2 s) (hb : s.rxBuf = []) (hlen : s.rxStream.length < replyLen x) :
    query opcode c x s = .blocked
      ((played [.tx (shortOf s.config c (lo opcode) (hi opcode) s.config.queryP2)] s).setRx (some x) s.rxStream
        []) := by
  have hv1 : Completes 1 (played [.tx (shortOf s.config c (lo opcode) (hi opcode) s.config.queryP2)] s) :=
    hv.after_played le_rfl
  have hbytes : (played [.tx (shortOf s.config c (lo opcode) (hi opcode) s.config.queryP2)] s).rxBuf ++
      (played [.tx (shortOf s.config c (lo opcode) (hi opcode) s.config.queryP2)] s).rxStream = s.rxStream := by
    simp [played, hb, rxBytes]
  rw [query_eq hl hr, txWrite_completes hv.headD, Run.andThen_ret, rxRead_waits hv1.headD (by rwa [hbytes]), hbytes]

end

/-! ### Commands of a channel -/

theorem withChannel_of_chanOf {ch : Byte} {c : Chan} (h : chanOf (ch.toNat : Int) = some c) (s : State)
    (body : Chan → State → Run Result) : withChannel ch s body = body c s := by
  simp only [withChannel, h]

theorem channelCommand_eq {s : State} (ha : Accepts s) {ch : Byte} {c : Chan} (hc : chanOf (ch.toNat : Int) = some c)
    (body : Chan → State → Run Result) : runCommand s (fun s => withChannel ch s body) = conclude (body c s) := by
  rw [runCommand_accepts ha, withChannel_of_chanOf hc]

/-- The pseudocode begins with the write of that frame. -/
def Run.BeginsWith {α : Type} (frame : List Byte) (s : State) (r : Run α) : Prop :=
  ∃ k : State → Unit → Run α, r = (txWrite frame s).andThen k

/-- The command is pseudocode that begins with the write of that frame. -/
def OutBeginsWith (frame : List Byte) (s : State) (o : Out) : Prop :=
  ∃ r : Run Result, o = conclude r ∧ r.BeginsWith frame s

theorem Run.BeginsWith.andThen {α β : Type} {frame : List Byte} {s : State} {r : Run α} (h : r.BeginsWith frame s)
    (f : State → α → Run β) : (r.andThen f).BeginsWith frame s := by
  obtain ⟨k, rfl⟩ := h
  exact ⟨_, Run.andThen_assoc _ _ _⟩

theorem txWrite_beginsWith (frame : List Byte) (s : State) : (txWrite frame s).BeginsWith frame s :=
  ⟨.ret, by cases txWrite frame s <;> rfl⟩

section
variable {s : State} (ha : Accepts s) (hl : configLegal s.config = true)

theorem channelCommand_beginsWith (ha : Accepts s) {ch : Byte} {c : Chan} (hc : chanOf (ch.toNat : Int) = some c)
    {frame : List Byte} {body : Chan → State → Run Result} (h : (body c s).BeginsWith frame s) :
    OutBeginsWith frame s (runCommand s fun s => withChannel ch s body) :=
  ⟨_, channelCommand_eq ha hc body, h⟩

include hl

theorem sendShort_beginsWith {opcode : Word16} {p2 : Int} (hr : (opcode, p2) ∈ shortRows s.config) (c : Chan) :
    (sendShort opcode c p2 s).BeginsWith (shortOf s.config c (lo opcode) (hi opcode) p2) s := by
  rw [sendShort_eq hl hr c]
  exact txWrite_beginsWith _ _

theorem enableBody_beginsWith (c : Chan) :
    (enableBody c s).BeginsWith (shortOf s.config c 0x10 0x02 s.config.enCode) s :=
  (sendShort_beginsWith hl (by simp [shortRows]) c).andThen _

theorem disableBody_beginsWith (c : Chan) :
    (disableBody c s).BeginsWith (shortOf s.config c 0x10 0x02 s.config.disCode) s :=
  (sendShort_beginsWith hl (by simp [shortRows]) c).andThen _

theorem setModeBody_beginsWith (c : Chan) (closed : Bool) :
    (setModeBody c closed s).BeginsWith (shortOf s.config c 0x40 0x06 (modeCode s.config closed)) s :=
  (sendShort_beginsWith hl (by cases closed <;> simp [shortRows, modeCode]) c).andThen _

include ha

theorem positionBody_beginsWith {pos : Int} {c : Chan} (hseq : s.seq.get c = .closedLoopReady) (h0 : 0 ≤ pos)
    (h1 : pos ≤ s.cfgMaxPos) :
    (positionBody pos c s).BeginsWith (longOf s.config c 0x46 (roundQ s.config.tie (pos * 32767) s.cfgMaxPos)) s := by
  obtain ⟨-, -, hmax, -⟩ := ha
  have hz0 : 0 ≤ roundQ s.config.tie (pos * 32767) s.cfgMaxPos := roundQ_nonneg _ (by omega) _
  have hz1 : roundQ s.config.tie (pos * 32767) s.cfgMaxPos ≤ 32767 :=
    roundQ_le (Nat.pos_of_ne_zero hmax) (by omega)
  rw [positionBody, if_neg (not_not.2 hseq), if_neg (by omega), posToScaled, checkScaled_of_range hz0 hz1,
    liftExcept_ok, Run.andThen_ret, sendLong_eq hl (by decide) c hz0 hz1]
  exact (txWrite_beginsWith _ s).andThen _

theorem setVoltBody_beginsWith {volts : Int} (h0 : 0 ≤ volts) (h1 : volts ≤ s.cfgMaxVolt) (c : Chan) :
    (setVoltBody volts 1 c s).BeginsWith
      (longOf s.config c 0x43 (roundQ s.config.tie (volts * 32767) s.cfgMaxVolt)) s := by
  obtain ⟨-, -, -, hmax⟩ := ha
  rw [setVoltBody_eq hl hmax Nat.one_pos h0 (by omega), one_mul]
  exact txWrite_beginsWith _ s

end

/-- A query command is the write of its request, the read, and what it makes of the reply (R140). -/
theorem queryCommand_eq {s : State} (ha : Accepts s) (hl : configLegal s.config = true) {ch : Byte} {c : Chan}
    (hc : chanOf (ch.toNat : Int) = some c) {opcode : Word16} (hr : (opcode, s.config.queryP2) ∈ shortRows s.config)
    (x : Chan → Exchange) (f : Chan → State → List Byte → Run Result) :
    runCommand s (fun s => withChannel ch s fun c s => (query opcode c (x c) s).andThen (f c)) =
      conclude ((txWrite (shortOf s.config c (lo opcode) (hi opcode) s.config.queryP2) s).andThen fun t _ =>
        (rxRead (x c) t).andThen (f c)) := by
  rw [channelCommand_eq ha hc, query_eq hl hr, Run.andThen_assoc]

theorem rampCheck_of_legal {s : State} {target : Int} {steps : Nat} (hsteps : steps ≠ 0) (h0 : 0 ≤ target)
    (h1 : target ≤ s.cfgMaxVolt) : rampCheck target steps s = .ok () := by
  rw [rampCheck, if_neg hsteps, if_neg (by omega)]

/-- A ramp that passes its checks is a query and what follows from the reading (R150). -/
theorem rampBody_eq {s : State} {target : Int} {steps : Nat} (hcheck : rampCheck target steps s = .ok ())
    (delayMs : Word32) (x : Exchange) (c : Chan) :
    rampBody target steps delayMs x c s =
      (query opQueryVoltage c x s).andThen fun t reply => rampFinish target steps delayMs c reply t := by
  rw [rampBody, hcheck, liftExcept_ok, Run.andThen_ret]

/-- A command that reads right after its first frame is the write of that frame, the read, and the rest. -/
theorem exec_reads {s : State} (ha : Accepts s) (hl : configLegal s.config = true) {i : Instr} {frame : List Byte}
    (hr : readsReply i = true) (hf : firstFrame s i = some frame) :
    ∃ (x : Exchange) (k : State → List Byte → Run Result),
      exec i s = conclude ((txWrite frame s).andThen fun t _ => (rxRead x t).andThen k) := by
  cases i with
  | pollZero ch | getMode ch | getEnable ch | getPosition ch | getVolt ch =>
    obtain ⟨c, hc, rfl⟩ := Option.map_eq_some_iff.1 hf
    exact ⟨_, _, queryCommand_eq ha hl hc (by simp [shortRows]) _ _⟩
  | rampVolt ch target steps delayMs =>
    obtain ⟨c, hc, hf⟩ := Option.bind_eq_some_iff.1 hf
    obtain ⟨⟨hsteps, h0, h1⟩, hf⟩ := Option.ite_none_right_eq_some.1 hf
    cases hf
    have hcheck : rampCheck target steps.toNat s = .ok () :=
      rampCheck_of_legal (fun h => hsteps (BitVec.eq_of_toNat_eq h)) h0 h1
    refine ⟨.ramp c target steps delayMs, fun t reply =>
      (rampFinish target steps.toNat delayMs c reply t).andThen noResult, ?_⟩
    rw [exec, execRampVolt, channelCommand_eq ha hc, rampBody_eq hcheck, query_eq hl (by simp [shortRows]),
      Run.andThen_assoc, Run.andThen_assoc]
    rfl
  | _ => cases hr

theorem exec_shutdown_eq {s : State} (ha : Accepts s) :
    exec .shutdown s = conclude ((shutdownFrom [.ch1, .ch2, .ch3] s).andThen noResult) :=
  runCommand_accepts ha fun s => (shutdownFrom [.ch1, .ch2, .ch3] s).andThen noResult

/-- Each of the fourteen commands, its checks passed, begins with the write of its first frame. -/
theorem exec_beginsWith {s : State} (ha : Accepts s) (hl : configLegal s.config = true) {i : Instr}
    {frame : List Byte} (hf : firstFrame s i = some frame) : OutBeginsWith frame s (exec i s) := by
  cases i with
  | identify =>
    cases hf
    exact ⟨_, runCommand_accepts ha _, (txWrite_beginsWith _ s).andThen _⟩
  | enable ch =>
    obtain ⟨c, hc, rfl⟩ := Option.map_eq_some_iff.1 hf
    exact channelCommand_beginsWith ha hc ((enableBody_beginsWith hl c).andThen _)
  | disable ch =>
    obtain ⟨c, hc, rfl⟩ := Option.map_eq_some_iff.1 hf
    exact channelCommand_beginsWith ha hc ((disableBody_beginsWith hl c).andThen _)
  | setMode ch closed =>
    obtain ⟨c, hc, rfl⟩ := Option.map_eq_some_iff.1 hf
    exact channelCommand_beginsWith ha hc ((setModeBody_beginsWith hl c closed).andThen _)
  | zero ch =>
    obtain ⟨c, hc, rfl⟩ := Option.map_eq_some_iff.1 hf
    exact channelCommand_beginsWith ha hc (((enableBody_beginsWith hl c).andThen _).andThen _)
  | position ch pos =>
    obtain ⟨c, hc, hf⟩ := Option.bind_eq_some_iff.1 hf
    obtain ⟨⟨hseq, h0, h1⟩, hf⟩ := Option.ite_none_right_eq_some.1 hf
    cases hf
    exact channelCommand_beginsWith ha hc (positionBody_beginsWith ha hl hseq h0 h1)
  | setVolt ch volts =>
    obtain ⟨c, hc, hf⟩ := Option.bind_eq_some_iff.1 hf
    obtain ⟨⟨h0, h1⟩, hf⟩ := Option.ite_none_right_eq_some.1 hf
    cases hf
    exact channelCommand_beginsWith ha hc ((setVoltBody_beginsWith ha hl h0 h1 c).andThen _)
  | shutdown =>
    cases hf
    exact ⟨_, exec_shutdown_eq ha, ((setModeBody_beginsWith hl .ch1 false).andThen _).andThen _⟩
  | pollZero | getMode | getEnable | getPosition | getVolt | rampVolt =>
    obtain ⟨x, k, e⟩ := exec_reads ha hl rfl hf
    exact ⟨_, e, _, rfl⟩
  | _ => cases hf

/-! ### Failures -/

theorem rxRead_fails {s : State} {moved : Nat} {vs : List Verdict} (hv : s.verdicts = .fails moved :: vs)
    (x : Exchange) :
    rxRead x s = .raised { s with exchange := none, rxBuf := [], rxStream := s.rxStream.drop moved, verdicts := vs }
      .transportFailure := by
  simp only [rxRead, hv, List.headD_cons, State.popVerdict, State.setRx, List.tail_cons]

/-- The first write of a command fails: the first bytes are on the wire and nothing else has happened (R46, R165). -/
theorem exec_first_write_fails {s : State} (ha : Accepts s) (hl : configLegal s.config = true) {i : Instr}
    {frame : List Byte} (hf : firstFrame s i = some frame) {moved : Nat} {vs : List Verdict}
    (hv : s.verdicts = .fails moved :: vs) :
    exec i s = .next (report (.error .transportFailure)
      { s with txStream := s.txStream ++ frame.take moved, verdicts := vs }) := by
  obtain ⟨_, e, k, rfl⟩ := exec_beginsWith ha hl hf
  rw [e, txWrite_fails hv]
  rfl

/-- The read after the first frame fails: the request stays sent, the moved bytes are gone (R46, R165). -/
theorem exec_read_fails {s : State} (ha : Accepts s) (hl : configLegal s.config = true) {i : Instr}
    {frame : List Byte} (hr : readsReply i = true) (hf : firstFrame s i = some frame) {moved : Nat}
    {vs : List Verdict} (hv : s.verdicts = .completes :: .fails moved :: vs) :
    exec i s = .next (report (.error .transportFailure)
      { s with
        txStream := s.txStream ++ frame, history := s.history ++ [.tx frame], rxBuf := []
        rxStream := s.rxStream.drop moved, verdicts := vs }) := by
  obtain ⟨x, k, e⟩ := exec_reads ha hl hr hf
  have hv' : (played [.tx frame] s).verdicts = .fails moved :: vs := by simp [played, accesses, hv]
  rw [e, txWrite_completes (by rw [hv]; rfl), Run.andThen_ret, rxRead_fails hv', Run.andThen_raised]
  simp [conclude, played, txFrames, rxBytes, ha.1]

end Sys2Proof.Machine
end

section
/-! SUPPORT. The set-points of a ramp and the channels of SHUTDOWN (spec 45_composite_commands R150 to R152), as far as
the transport completes them and the replies are there. -/

namespace Sys2Proof.Machine

open Safety Claims

/-! ### One set-point (R150, R151) -/

/-- The rounding depends on the quotient alone. -/
theorem roundQ_mul_left (tie : TieRule) {k : Nat} (hk : 0 < k) (n : Int) (d : Nat) :
    roundQ tie (k * n) (k * d) = roundQ tie n d := by
  have hk' : (0 : Int) < k := by omega
  have hdiv : (k * n) / ((k * d : Nat) : Int) = n / d := by
    rw [Nat.cast_mul, Int.mul_ediv_mul_of_pos n d hk']
  have hmod : (k * n) % ((k * d : Nat) : Int) = k * (n % d) := by
    rw [Nat.cast_mul, Int.mul_emod_mul_of_pos n d hk']
  have hlt : 2 * (k * (n % d)) < ((k * d : Nat) : Int) ↔ 2 * (n % d) < (d : Int) := by
    rw [Nat.cast_mul, ← mul_assoc, mul_comm (2 : Int), mul_assoc, mul_lt_mul_iff_right₀ hk']
  have hgt : 2 * (k * (n % d)) > ((k * d : Nat) : Int) ↔ 2 * (n % d) > (d : Int) := by
    rw [Nat.cast_mul, ← mul_assoc, mul_comm (2 : Int), mul_assoc, gt_iff_lt, mul_lt_mul_iff_right₀ hk']
  have hsign : 0 ≤ k * n ↔ 0 ≤ n := mul_nonneg_iff_of_pos_left hk'
  simp only [roundQ, hdiv, hmod, hlt, hgt, hsign]

/-- The reading and target between which a ramp of `n` steps stays in range. -/
structure RampInRange (s : State) (raw target : Int) (n : Nat) : Prop where
  legal   : configLegal s.config = true
  maxVolt : s.cfgMaxVolt ≠ 0
  steps   : 0 < n
  raw0    : 0 ≤ raw
  raw1    : raw ≤ 32767
  target0 : 0 ≤ target
  target1 : target ≤ s.cfgMaxVolt

theorem setPointNum_nonneg {raw target : Int} {max n i : Nat} (h0 : 0 ≤ raw) (h1 : 0 ≤ target) (hi : i ≤ n) :
    0 ≤ setPointNum raw target max n i := by
  have hrest : (0 : Int) ≤ (n : Int) - i := by omega
  unfold setPointNum
  positivity

theorem setPointNum_le {raw target : Int} {max n i : Nat} (h0 : raw ≤ 32767) (h1 : target ≤ max) (hi : i ≤ n) :
    setPointNum raw target max n i ≤ (max : Int) * (32767 * n : Nat) := by
  have hrest : (0 : Int) ≤ (n : Int) - i := by omega
  calc raw * max * ((n : Int) - i) + 32767 * target * i
      ≤ 32767 * max * ((n : Int) - i) + 32767 * max * i := by gcongr
    _ = (max : Int) * (32767 * n : Nat) := by push_cast; ring

/-- Set-point `i` of a ramp in range is the frame of R151. -/
theorem setVoltBody_setPoint {s : State} {raw target : Int} {n i : Nat} (h : RampInRange s raw target n) (hi : i ≤ n)
    (c : Chan) :
    setVoltBody (setPointNum raw target s.cfgMaxVolt n i) (32767 * n) c s =
      txWrite (setPointFrame s c raw target n i) s := by
  have hscale : roundQ s.config.tie (setPointNum raw target s.cfgMaxVolt n i * 32767) (32767 * n * s.cfgMaxVolt) =
      roundQ s.config.tie (setPointNum raw target s.cfgMaxVolt n i) (s.cfgMaxVolt * n) := by
    rw [mul_comm _ (32767 : Int), mul_assoc, mul_comm n]
    exact roundQ_mul_left _ (by decide) _ _
  rw [setVoltBody_eq h.legal h.maxVolt (Nat.mul_pos (by decide) h.steps) (setPointNum_nonneg h.raw0 h.target0 hi)
    (setPointNum_le h.raw1 h.target1 hi) c, hscale]
  rfl

/-! ### The set-points of a ramp (R150) -/

theorem RampInRange.played {s : State} {raw target : Int} {n : Nat} (h : RampInRange s raw target n) (es : List Event) :
    RampInRange (Safety.played es s) raw target n :=
  ⟨h.legal, h.maxVolt, h.steps, h.raw0, h.raw1, h.target0, h.target1⟩

theorem rampPrefix_succ (frame : Nat → List Byte) (delayMs : Word32) (j : Nat) :
    rampPrefix frame delayMs (j + 1) = rampPrefix frame delayMs j ++ [.tx (frame j), .wait delayMs] := by
  simp [rampPrefix, List.range_succ]

theorem accesses_rampPrefix (frame : Nat → List Byte) (delayMs : Word32) (j : Nat) :
    accesses (rampPrefix frame delayMs j) = j := by
  induction j with
  | zero => rfl
  | succ j ih => rw [rampPrefix_succ, accesses_append, ih]; rfl

/-- The first `j` set-points and the last `k + 1` are the whole ramp. -/
theorem rampPrefix_append_rampEvents (frame : Nat → List Byte) (delayMs : Word32) {n k : Nat} (hk : k ≤ n) :
    rampPrefix frame delayMs (n - k) ++ rampEvents frame delayMs n k =
      rampPrefix frame delayMs n ++ [.tx (frame n)] := by
  induction k with
  | zero => rfl
  | succ k ih =>
    have hn : n - k = n - (k + 1) + 1 := by omega
    rw [← ih (by omega), hn, rampPrefix_succ, List.append_assoc]
    rfl

/-- A ramp whose first `j` writes complete has sent `j` set-points and goes on with set-point `j`. -/
theorem rampSetPoints_advance {s : State} {raw target : Int} {n : Nat} (h : RampInRange s raw target n)
    (delayMs : Word32) (c : Chan) {j : Nat} (hj : j ≤ n) (hv : Completes j s) :
    rampSetPoints raw target n delayMs c n s = rampSetPoints raw target n delayMs c (n - j)
      (played (rampPrefix (setPointFrame s c raw target n) delayMs j) s) := by
  induction j with
  | zero => simp [rampPrefix]
  | succ j ih =>
    have hv1 : Completes 1 (played (rampPrefix (setPointFrame s c raw target n) delayMs j) s) :=
      hv.after_played (by rw [accesses_rampPrefix])
    have hk : n - j = n - (j + 1) + 1 := by omega
    have hindex : n - (n - (j + 1) + 1) = j := by omega
    rw [ih (by omega) (hv.mono (by omega)), hk, rampSetPoints, hindex, setVoltBody_setPoint (h.played _) (by omega),
      txWrite_completes hv1.headD, Run.andThen_ret, waitMs_played, played_played, played_played, rampPrefix_succ]
    rfl

/-- The whole ramp (R150). -/
theorem rampSetPoints_completes {s : State} {raw target : Int} {n : Nat} (h : RampInRange s raw target n)
    (delayMs : Word32) (c : Chan) (hv : Completes (n + 1) s) :
    rampSetPoints raw target n delayMs c n s =
      .ret (played (rampEvents (setPointFrame s c raw target n) delayMs n n) s) () := by
  have hv1 : Completes 1 (played (rampPrefix (setPointFrame s c raw target n) delayMs n) s) :=
    hv.after_played (by rw [accesses_rampPrefix])
  have hevents := rampPrefix_append_rampEvents (setPointFrame s c raw target n) delayMs (le_refl n)
  rw [Nat.sub_self] at hevents
  rw [rampSetPoints_advance h delayMs c le_rfl (hv.mono (by omega)), Nat.sub_self, rampSetPoints,
    setVoltBody_setPoint (h.played _) le_rfl, txWrite_completes hv1.headD, played_played]
  exact congrArg (fun es => Run.ret (played es s) ()) hevents.symm

/-- A ramp whose write of set-point `j` fails stops there. -/
theorem rampSetPoints_fails {s : State} {raw target : Int} {n : Nat} (h : RampInRange s raw target n)
    (delayMs : Word32) (c : Chan) {j : Nat} (hj : j ≤ n) {moved : Nat} {vs : List Verdict}
    (hv : s.verdicts = List.replicate j .completes ++ .fails moved :: vs) :
    rampSetPoints raw target n delayMs c n s =
      .raised { played (rampPrefix (setPointFrame s c raw target n) delayMs j) s with
        txStream := (played (rampPrefix (setPointFrame s c raw target n) delayMs j) s).txStream ++
          (setPointFrame s c raw target n j).take moved
        verdicts := vs } .transportFailure := by
  have hv' : (played (rampPrefix (setPointFrame s c raw target n) delayMs j) s).verdicts = .fails moved :: vs := by
    rw [played, hv, accesses_rampPrefix]
    exact List.drop_left' List.length_replicate
  rw [rampSetPoints_advance h delayMs c hj (.of_replicate hv)]
  cases hk : n - j with
  | zero =>
    have hjn : j = n := by omega
    subst hjn
    rw [rampSetPoints, setVoltBody_setPoint (h.played _) le_rfl, txWrite_fails hv']
    rfl
  | succ k =>
    have hindex : n - (k + 1) = j := by omega
    rw [rampSetPoints, hindex, setVoltBody_setPoint (h.played _) hj, txWrite_fails hv']
    rfl

end Sys2Proof.Machine
end

section
/-! SUPPORT. RAMPVOLT and SHUTDOWN up to where they wait or fail (spec 45_composite_commands R150, R152; 60_exceptions
R165, R179), and the statements on waiting and failing commands. -/

namespace Sys2Proof.Machine

open Safety Claims

theorem readingOf_le (reply : List Byte) : readingOf reply ≤ 32767 := by
  have h := BitVec.toInt_lt (x := (reply.getD 9 0 ++ reply.getD 8 0 : Word16))
  unfold readingOf
  omega

/-- A ramp after its reading, with the reading taken from the whole stream. -/
theorem rampFinish_take (target : Int) (n : Nat) (delayMs : Word32) (c : Chan) (stream : List Byte) (s : State) :
    rampFinish target n delayMs c (stream.take 10) s = rampSetPoints (readingOf stream) target n delayMs c n s := by
  rw [rampFinish, b2i16_eq_readingOf, readingOf_take]

/-- What a command finds when it starts, and SHUTDOWN again at each channel. -/
structure Fresh (s : State) : Prop where
  legal   : configLegal s.config = true
  maxVolt : s.cfgMaxVolt ≠ 0
  idle    : s.exchange = none
  rxBuf   : s.rxBuf = []

theorem Fresh.of_accepts {s : State} (ha : Accepts s) (hl : configLegal s.config = true) (hb : s.rxBuf = []) :
    Fresh s :=
  ⟨hl, ha.2.2.2, ha.1, hb⟩

theorem Fresh.after {s : State} (h : Fresh s) (es : List Event) (m : PerChan Mode) :
    Fresh ((played es s).withModes m) :=
  ⟨h.legal, h.maxVolt, h.idle, h.rxBuf⟩

theorem shutSteps_ne_zero {cfg : Config} (h : configLegal cfg = true) : cfg.shutSteps.toNat ≠ 0 := by
  obtain ⟨-, -, -, -, -, -, -, -, -, -, hsteps, -⟩ := (configLegal_iff cfg).1 h
  exact fun h0 => hsteps (BitVec.eq_of_toNat_eq h0)

theorem played_withModes (es : List Event) (m : PerChan Mode) (s : State) :
    played es (s.withModes m) = (played es s).withModes m := rfl

/-! ### The reading of a ramp (R150) -/

section
variable {s : State} {x : Exchange}

theorem voltQuery_eq (hl : configLegal s.config = true) (c : Chan) (x : Exchange) :
    query opQueryVoltage c x s = (txWrite (voltRequest s c) s).andThen fun t _ => rxRead x t :=
  query_eq hl (by simp [shortRows]) c x

theorem voltQuery_completes (h : Fresh s) (hx : replyLen x = 10) (hv : Completes 2 s) (c : Chan)
    (hlen : 10 ≤ s.rxStream.length) :
    query opQueryVoltage c x s =
      .ret (played [.tx (voltRequest s c), .rx 10 (s.rxStream.take 10)] s) (s.rxStream.take 10) := by
  have hrow : (opQueryVoltage, s.config.queryP2) ∈ shortRows s.config := by simp [shortRows]
  rw [query_completes h.legal hrow c hv h.idle h.rxBuf (hx.trans_le hlen), hx]
  rfl

theorem voltQuery_waits (h : Fresh s) (hx : replyLen x = 10) (hv : Completes 2 s) (c : Chan)
    (hlen : s.rxStream.length < 10) :
    query opQueryVoltage c x s =
      .blocked ((played [.tx (voltRequest s c)] s).setRx (some x) s.rxStream []) :=
  query_waits h.legal (by simp [shortRows]) c hv h.rxBuf (hlen.trans_eq hx.symm)

end

/-! ### SHUTDOWN, channel by channel (R152) -/

/-- The block once SHUTDOWN has put channel `c` into open loop. -/
def openedLoop (c : Chan) (s : State) : State :=
  (played [.tx (openFrame s c)] s).withModes (s.mode.set c .openLoop)

theorem setModeBody_opens {s : State} (hl : configLegal s.config = true) (hv : Completes 1 s) (c : Chan) :
    setModeBody c false s = .ret (openedLoop c s) () := by
  rw [setModeBody, sendShort_eq hl (by simp [shortRows, modeCode]), txWrite_completes hv.headD]
  rfl

theorem Completes.openedLoop {s : State} {k m : Nat} (hv : Completes k s) (hk : m + 1 ≤ k) (c : Chan) :
    Completes m (Machine.openedLoop c s) :=
  hv.after_played (es := [.tx (openFrame s c)]) (by simp only [accesses]; omega)

theorem played_openedLoop (es : List Event) (c : Chan) (s : State) :
    played es (openedLoop c s) = (played (.tx (openFrame s c) :: es) s).withModes (s.mode.set c .openLoop) := by
  rw [openedLoop, played_withModes, played_played]
  rfl

/-- After open loop SHUTDOWN asks for the channel's voltage, ramps it to 0 and goes on. -/
theorem shutdownFrom_opens {s : State} (hl : configLegal s.config = true) (hv : Completes 1 s) (c : Chan)
    (cs : List Chan) :
    shutdownFrom (c :: cs) s =
      ((query opQueryVoltage c (.shutdown c) (openedLoop c s)).andThen fun t reply =>
        rampFinish 0 s.config.shutSteps.toNat s.config.shutDelayMs c reply t).andThen fun t _ => shutdownFrom cs t := by
  have hcheck : rampCheck 0 s.config.shutSteps.toNat (openedLoop c s) = .ok () :=
    rampCheck_of_legal (shutSteps_ne_zero hl) le_rfl (by simp)
  rw [shutdownFrom, setModeBody_opens hl hv, Run.andThen_ret, ← rampBody_eq hcheck]
  rfl

/-- SHUTDOWN waits at a channel whose reply is not there. -/
theorem shutdownFrom_waits {s : State} (h : Fresh s) (hv : Completes 3 s) (hlen : s.rxStream.length < 10) (c : Chan)
    (cs : List Chan) :
    shutdownFrom (c :: cs) s =
      .blocked (((played [.tx (openFrame s c), .tx (voltRequest s c)] s).withModes (s.mode.set c .openLoop)).setRx
        (some (.shutdown c)) s.rxStream []) := by
  rw [shutdownFrom_opens h.legal (hv.mono (by decide)), voltQuery_waits (s := openedLoop c s) (h.after _ _) rfl
    (hv.openedLoop le_rfl c) c hlen, Run.andThen_blocked, Run.andThen_blocked, played_openedLoop]
  rfl

theorem rxBytes_rampEvents (frame : Nat → List Byte) (delayMs : Word32) (n k : Nat) :
    rxBytes (rampEvents frame delayMs n k) = [] := by
  induction k with
  | zero => rfl
  | succ k ih => exact ih

/-- A channel's part of SHUTDOWN reads its reply and nothing else. -/
theorem rxBytes_shutHistory (s : State) (c : Chan) (reply : List Byte) : rxBytes (shutHistory s c reply) = reply := by
  simp [shutHistory, rampHistory, rxBytes, rxBytes_rampEvents]

/-- The block once SHUTDOWN is done with channel `c`, its reply the first ten bytes of the stream. -/
def rampedDown (c : Chan) (s : State) : State :=
  (played (shutHistory s c (s.rxStream.take 10)) s).withModes (s.mode.set c .openLoop)

theorem rxStream_rampedDown {s : State} (c : Chan) (hlen : 10 ≤ s.rxStream.length) :
    (rampedDown c s).rxStream = s.rxStream.drop 10 := by
  show s.rxStream.drop (rxBytes (shutHistory s c (s.rxStream.take 10))).length = _
  rw [rxBytes_shutHistory, List.length_take, Nat.min_eq_left hlen]

theorem Fresh.rampedDown {s : State} (h : Fresh s) (c : Chan) : Fresh (Machine.rampedDown c s) := h.after _ _

theorem noFailure_rampedDown {s : State} (hv : NoFailure s) (c : Chan) : NoFailure (rampedDown c s) :=
  noFailure_played hv _

theorem played_rampedDown (es : List Event) (c : Chan) (s : State) :
    played es (rampedDown c s) =
      (played (shutHistory s c (s.rxStream.take 10) ++ es) s).withModes (s.mode.set c .openLoop) := by
  rw [rampedDown, played_withModes, played_played]

/-- SHUTDOWN goes on after a channel whose reply is there and not negative. -/
theorem shutdownFrom_ramps {s : State} (h : Fresh s) (hv : Completes (s.config.shutSteps.toNat + 4) s)
    (hlen : 10 ≤ s.rxStream.length) (hreading : 0 ≤ readingOf s.rxStream) (c : Chan) (cs : List Chan) :
    shutdownFrom (c :: cs) s = shutdownFrom cs (rampedDown c s) := by
  have hv3 : Completes (s.config.shutSteps.toNat + 3) (openedLoop c s) := hv.openedLoop le_rfl c
  have hquery : query opQueryVoltage c (.shutdown c) (openedLoop c s) =
      .ret (played [.tx (voltRequest s c), .rx 10 (s.rxStream.take 10)] (openedLoop c s)) (s.rxStream.take 10) :=
    voltQuery_completes (h.after _ _) rfl (hv3.mono (by omega)) c hlen
  have hrange : RampInRange (played [.tx (voltRequest s c), .rx 10 (s.rxStream.take 10)] (openedLoop c s))
      (readingOf s.rxStream) 0 s.config.shutSteps.toNat :=
    ⟨h.legal, h.maxVolt, Nat.pos_of_ne_zero (shutSteps_ne_zero h.legal), hreading, readingOf_le _, le_rfl, by simp⟩
  rw [shutdownFrom_opens h.legal (hv.mono (by omega)), hquery, Run.andThen_ret, rampFinish_take,
    rampSetPoints_completes hrange _ _ (hv3.after_played (by simp only [accesses]; omega)), Run.andThen_ret,
    played_played, played_openedLoop, rampedDown, shutHistory, rampHistory, readingOf_take]
  rfl

/-! ### Waiting (R179) -/

/-- A query command whose reply is not there. -/
theorem queryCommand_waits {s : State} (ha : Accepts s) (hl : configLegal s.config = true) (hv : NoFailure s)
    (hb : s.rxBuf = []) {opcode : Word16} (hr : (opcode, s.config.queryP2) ∈ shortRows s.config) {c : Chan}
    (x : Chan → Exchange) (f : Chan → State → List Byte → Run Result) (hlen : s.rxStream.length < replyLen (x c)) :
    runCommand s (fun s => withChannel (chanByte c) s fun c s => (query opcode c (x c) s).andThen (f c)) =
      .next { played [.tx (shortOf s.config c (lo opcode) (hi opcode) s.config.queryP2)] s with
        exchange := some (x c), rxBuf := s.rxStream, rxStream := [] } := by
  rw [channelCommand_eq ha (chanOf_chanByte c), query_waits hl hr c (.of_noFailure hv 2) hb hlen]
  rfl

/-- Settles O43: the queries alike, a ramp as the query it begins with, SHUTDOWN by the channel where it waits. -/
theorem queriesWaitForTheirReply : Obligations.QueriesWaitForTheirReply := by
  intro s c ha hl hv hb
  have hs : Fresh s := .of_accepts ha hl hb
  refine ⟨fun hlen => ⟨?_, ?_, ?_⟩, fun hlen => ⟨?_, ?_, fun target steps delayMs hsteps h0 h1 => ?_, ?_⟩,
    fun hlen hlen' hr1 => ?_, fun hlen hlen' hr1 hr2 => ?_⟩
  · exact queryCommand_waits ha hl hv hb (by simp [shortRows]) .pollZero _ hlen
  · exact queryCommand_waits ha hl hv hb (by simp [shortRows]) .getMode _ hlen
  · exact queryCommand_waits ha hl hv hb (by simp [shortRows]) .getEnable _ hlen
  · exact queryCommand_waits ha hl hv hb (by simp [shortRows]) .getPosition _ hlen
  · exact queryCommand_waits ha hl hv hb (by simp [shortRows]) .getVolt _ hlen
  · have hcheck : rampCheck target steps.toNat s = .ok () :=
      rampCheck_of_legal (fun h => hsteps (BitVec.eq_of_toNat_eq h)) h0 h1
    rw [exec, execRampVolt, channelCommand_eq ha (chanOf_chanByte c), rampBody_eq hcheck,
      voltQuery_waits hs rfl (.of_noFailure hv 2) c hlen]
    rfl
  · rw [exec_shutdown_eq ha, shutdownFrom_waits hs (.of_noFailure hv 3) hlen]
    rfl
  · have hrest := rxStream_rampedDown .ch1 hlen
    have hwait : (rampedDown .ch1 s).rxStream.length < 10 := by
      rw [hrest, List.length_drop]
      omega
    rw [exec_shutdown_eq ha, shutdownFrom_ramps hs (.of_noFailure hv _) hlen hr1,
      shutdownFrom_waits (hs.rampedDown _) (.of_noFailure (noFailure_rampedDown hv _) 3) hwait,
      played_rampedDown, hrest]
    rfl
  · have hrest := rxStream_rampedDown .ch1 (by omega : 10 ≤ s.rxStream.length)
    have hlen2 : 10 ≤ (rampedDown .ch1 s).rxStream.length := by
      rw [hrest, List.length_drop]
      omega
    have hrest2 := (rxStream_rampedDown .ch2 hlen2).trans (by rw [hrest, List.drop_drop])
    have hwait : (rampedDown .ch2 (rampedDown .ch1 s)).rxStream.length < 10 := by
      rw [hrest2, List.length_drop]
      omega
    have hs1 : Fresh (rampedDown .ch1 s) := hs.rampedDown _
    have hv1 : NoFailure (rampedDown .ch1 s) := noFailure_rampedDown hv _
    rw [exec_shutdown_eq ha, shutdownFrom_ramps hs (.of_noFailure hv _) (by omega) hr1,
      shutdownFrom_ramps hs1 (.of_noFailure hv1 _) hlen2 (by rwa [hrest]),
      shutdownFrom_waits (hs1.rampedDown _) (.of_noFailure (noFailure_rampedDown hv1 _) 3) hwait, played_rampedDown,
      played_rampedDown, hrest2, hrest, List.append_assoc]
    rfl

end Sys2Proof.Machine
end

section
/-! SUPPORT. Accesses that fail after the first of a command (spec 20_memory R46; 60_exceptions R165). -/

namespace Sys2Proof.Machine

open Safety Claims

/-- ZERO with its first write done: the channel is enabled and the zero frame comes next (R125). -/
theorem zeroBody_enabled {s : State} (hl : configLegal s.config = true) (hv : Completes 1 s) (c : Chan) :
    zeroBody c s = (txWrite (shortOf s.config c 0x58 0x06 s.config.queryP2)
      ((played [.tx (shortOf s.config c 0x10 0x02 s.config.enCode)] s).setSeq c .enabled)).andThen fun t _ =>
        .ret (t.setSeq c .zeroRequested) () := by
  rw [zeroBody, enableBody, sendShort_eq hl (by simp [shortRows]), txWrite_completes hv.headD, Run.andThen_ret,
    Run.andThen_ret, sendShort_eq (s := (played _ s).setSeq c .enabled) hl (by simp [shortRows])]
  rfl

/-- ZERO whose second write fails has enabled the channel (R125). -/
theorem exec_zero_second_write_fails {s : State} (ha : Accepts s) (hl : configLegal s.config = true) (c : Chan)
    {moved : Nat} {vs : List Verdict} (hv : s.verdicts = .completes :: .fails moved :: vs) :
    exec (.zero (chanByte c)) s = .next (report (.error .transportFailure) { s with
      seq := s.seq.set c .enabled
      txStream := s.txStream ++ shortOf s.config c 0x10 0x02 s.config.enCode ++
        (shortOf s.config c 0x58 0x06 s.config.queryP2).take moved
      history := s.history ++ [.tx (shortOf s.config c 0x10 0x02 s.config.enCode)]
      verdicts := vs }) := by
  have hv' : ((played [.tx (shortOf s.config c 0x10 0x02 s.config.enCode)] s).setSeq c .enabled).verdicts =
      .fails moved :: vs := by
    simp [played, accesses, hv]
  rw [exec, execZero, channelCommand_eq ha (chanOf_chanByte c), zeroBody_enabled hl (.of_replicate (m := 1) hv),
    txWrite_fails hv']
  rfl

/-- SHUTDOWN whose request for channel 1 fails leaves that channel in open loop (R152). -/
theorem exec_shutdown_request_fails {s : State} (ha : Accepts s) (hl : configLegal s.config = true) {moved : Nat}
    {vs : List Verdict} (hv : s.verdicts = .completes :: .fails moved :: vs) :
    exec .shutdown s = .next (report (.error .transportFailure) { s with
      mode := s.mode.set .ch1 .openLoop
      txStream := s.txStream ++ openFrame s .ch1 ++ (voltRequest s .ch1).take moved
      history := s.history ++ [.tx (openFrame s .ch1)]
      verdicts := vs }) := by
  have hv' : (openedLoop .ch1 s).verdicts = .fails moved :: vs := by
    simp [openedLoop, State.withModes, played, accesses, hv]
  rw [exec_shutdown_eq ha, shutdownFrom_opens hl (.of_replicate (m := 1) hv), voltQuery_eq (s := openedLoop .ch1 s) hl,
    txWrite_fails hv']
  rfl

/-- SHUTDOWN whose read for channel 1 fails leaves that channel in open loop (R152). -/
theorem exec_shutdown_read_fails {s : State} (ha : Accepts s) (hl : configLegal s.config = true) {moved : Nat}
    {vs : List Verdict} (hv : s.verdicts = .completes :: .completes :: .fails moved :: vs) :
    exec .shutdown s = .next (report (.error .transportFailure) { s with
      mode := s.mode.set .ch1 .openLoop
      txStream := s.txStream ++ openFrame s .ch1 ++ voltRequest s .ch1
      history := s.history ++ [.tx (openFrame s .ch1), .tx (voltRequest s .ch1)]
      rxBuf := [], rxStream := s.rxStream.drop moved, verdicts := vs }) := by
  have hv1 : (openedLoop .ch1 s).verdicts = .completes :: .fails moved :: vs := by
    simp [openedLoop, State.withModes, played, accesses, hv]
  have hv2 : (played [.tx (voltRequest s .ch1)] (openedLoop .ch1 s)).verdicts = .fails moved :: vs := by
    simp [openedLoop, State.withModes, played, accesses, hv]
  have hrequest : txWrite (voltRequest (openedLoop .ch1 s) .ch1) (openedLoop .ch1 s) =
      .ret (played [.tx (voltRequest s .ch1)] (openedLoop .ch1 s)) () :=
    txWrite_completes (by rw [hv1]; rfl) _
  rw [exec_shutdown_eq ha, shutdownFrom_opens hl (.of_replicate (m := 1) hv), voltQuery_eq (s := openedLoop .ch1 s) hl,
    hrequest, Run.andThen_ret, rxRead_fails hv2]
  simp [conclude, openedLoop, State.withModes, played, txFrames, rxBytes, ha.1]

/-- A ramp whose write of set-point `j` fails stops there; what it sent before stays sent (R150). -/
theorem exec_rampVolt_setPoint_fails {s : State} (ha : Accepts s) (hl : configLegal s.config = true) (c : Chan)
    {target : Int} {steps : Word16} (delayMs : Word32) {j : Nat} (hsteps : steps ≠ 0) (h0 : 0 ≤ target)
    (h1 : target ≤ s.cfgMaxVolt) (hb : s.rxBuf = []) (hlen : 10 ≤ s.rxStream.length)
    (hreading : 0 ≤ readingOf s.rxStream) (hj : j ≤ steps.toNat) {moved : Nat} {vs : List Verdict}
    (hv : s.verdicts = List.replicate (2 + j) .completes ++ .fails moved :: vs) :
    let frame := setPointFrame s c (readingOf s.rxStream) target steps.toNat
    let t := played ([.tx (voltRequest s c), .rx 10 (s.rxStream.take 10)] ++ rampPrefix frame delayMs j) s
    exec (.rampVolt (chanByte c) target steps delayMs) s = .next (report (.error .transportFailure)
      { t with txStream := t.txStream ++ (frame j).take moved, verdicts := vs }) := by
  intro frame t
  have hn : steps.toNat ≠ 0 := fun h => hsteps (BitVec.eq_of_toNat_eq h)
  have hrange : RampInRange (played [.tx (voltRequest s c), .rx 10 (s.rxStream.take 10)] s) (readingOf s.rxStream)
      target steps.toNat :=
    ⟨hl, ha.2.2.2, Nat.pos_of_ne_zero hn, hreading, readingOf_le _, h0, h1⟩
  have hv' : (played [.tx (voltRequest s c), .rx 10 (s.rxStream.take 10)] s).verdicts =
      List.replicate j .completes ++ .fails moved :: vs := by
    simp [played, accesses, hv, Nat.add_comm 2 j, List.replicate_succ]
  rw [exec, execRampVolt, channelCommand_eq ha (chanOf_chanByte c), rampBody_eq (rampCheck_of_legal hn h0 h1),
    voltQuery_completes (.of_accepts ha hl hb) rfl (.mono (.of_replicate hv) (by omega)) c hlen, Run.andThen_ret,
    rampFinish_take, rampSetPoints_fails hrange delayMs c hj hv', played_played]
  rfl

/-- Settles O44: one lemma for each access that can fail. -/
theorem failedWritesSkipTheRegister : Obligations.FailedWritesSkipTheRegister := by
  intro s moved vs ha hl
  refine ⟨fun i frame hf hv => exec_first_write_fails ha hl hf hv,
    fun i frame hr hf hv => exec_read_fails ha hl hr hf hv,
    fun c hv => exec_zero_second_write_fails ha hl c hv, fun hv => exec_shutdown_request_fails ha hl hv,
    fun hv => exec_shutdown_read_fails ha hl hv, ?_⟩
  intro c target steps delayMs j hsteps h0 h1 hb hlen hreading hj hv
  exact exec_rampVolt_setPoint_fails ha hl c delayMs hsteps h0 h1 hb hlen hreading hj hv

end Sys2Proof.Machine
end

section
/-! SUPPORT. Encoding what the decoder accepts (spec 30_encoding R56 to R60, R67), and words of the spec's tables. -/

namespace Sys2Proof.Machine

/-- Every check of the decoder of short frames pins the bytes that its row of R67 fixes. -/
theorem encode_of_decodeShort {cfg : Config} {opcode : Word16} {p1 p2 dest src : Byte} {i : Instr}
    (h : decodeShort cfg opcode p1 p2 dest src = .ok i) :
    encode cfg i = .toDevice (encodeShort opcode p1 p2 dest src) := by
  rw [decodeShort] at h
  split at h
  case isTrue => cases h
  case isFalse hguard =>
    obtain ⟨rfl, hshort⟩ : src = hostAddr ∧ isLongDest dest = false := by simpa using hguard
    have hdest : shortDest (destField dest) = dest := shortDest_destField hshort
    simp only [beq_iff_eq] at h
    split_ifs at h <;> cases h <;> simp only [encode, *]

/-- The same for long frames: the length is 4 and the data-packet bit is set (R57, R66). -/
theorem encode_of_decodeLong {cfg : Config} {opcode len : Word16} {dest src ci hiByte v0 v1 : Byte} {i : Instr}
    (h : decodeLong opcode len dest src ci hiByte v0 v1 = .ok i) :
    encode cfg i = .toDevice [lo opcode, hi opcode, lo len, hi len, dest, src, ci, hiByte, v0, v1] := by
  rw [decodeLong] at h
  split at h
  case isTrue => cases h
  case isFalse hguard =>
    obtain ⟨⟨rfl, hlong⟩, rfl⟩ : (src = hostAddr ∧ isLongDest dest = true) ∧ len = 4 := by simpa using hguard
    have hdest : longDest (destField dest) = dest := longDest_destField hlong
    simp only [beq_iff_eq] at h
    split_ifs at h <;> cases h <;> simp only [encode, longBytes, lo_word16, hi_word16, *] <;> rfl

theorem encode_of_decode_toDevice {cfg : Config} {bs : List Byte} {i : Instr}
    (h : decode cfg (.toDevice bs) = .ok i) : encode cfg i = .toDevice bs := by
  unfold decode at h
  split at h <;> rename_i heq <;> cases heq
  · rw [encode_of_decodeShort h, encodeShort, lo_word16, hi_word16]
  · simp only [encode_of_decodeLong h, lo_word16, hi_word16]
  · cases h

theorem encode_of_decode_fromDevice {cfg : Config} {bs : List Byte} {i : Instr}
    (h : decode cfg (.fromDevice bs) = .ok i) : encode cfg i = .fromDevice bs := by
  unfold decode at h
  split at h <;> rename_i heq <;> cases heq <;> cases h <;> rfl

/-- Settles O6: one lemma for each direction of the wire. -/
theorem wireFramesEncodeBack : Obligations.WireFramesEncodeBack :=
  fun _ _ _ => ⟨encode_of_decode_toDevice, encode_of_decode_fromDevice⟩

/-- Settles O7: by running the decoder on each word. -/
theorem writtenOutWordsDecode : Obligations.WrittenOutWordsDecode :=
  ⟨rfl, rfl, rfl, rfl, rfl⟩

end Sys2Proof.Machine
end

section
/-! SUPPORT. IDENTIFY (spec 43_channel_commands R121), the reserved select codes (60_exceptions R180) and the record of
the response port (R76, R166). -/

namespace Sys2Proof.Machine

open Safety Claims

/-- Settles O29: the accepted command is one completed write. -/
theorem identifyWritesOneFrame : Obligations.IdentifyWritesOneFrame := by
  intro s ha hv
  have hbody : identifyBody s =
      .ret (played [.tx [0x23, 0x02, s.config.identP1, s.config.identP2, 0x50, 0x01]] s) .nothing := by
    rw [identifyBody, txWrite_completes (headD_completes hv)]
    rfl
  rw [exec, execIdentify, runCommand_accepts ha, hbody]
  rfl

/-- Settles O45: a reserved code's meaning is its refusal, which does not look at the state. -/
theorem reservedCodesAreRefused : Obligations.ReservedCodesAreRefused :=
  fun _ => ⟨rfl, rfl, rfl, rfl, rfl, rfl⟩

/-- A result that stands for the integer `v` puts `v` on the port, where it fits (R76). -/
theorem report_response_of_fits {s : State} {r : Result} {v : Int}
    (hr : rspVal s.config s.history.length r = portInt s.config s.history.length r v)
    (hv : fitsSigned s.config.valW v = true) : (report (.ok r) s).response = some ⟨0, v, r⟩ := by
  rw [report_response, responseOf, hr, portInt_of_fits hv]

theorem fitsSigned_zero (w : Nat) : fitsSigned w 0 = true := by
  simp [fitsSigned]

theorem quantise_floor (q : Ratio) : quantise .floor q = ⌊(q.num : ℚ) / q.den⌋ :=
  (Rat.floor_intCast_div_natCast q.num q.den).symm

/-- Settles O47: every error's code by evaluation, every value by what its result stands for. -/
theorem responseRecord : Obligations.ResponseRecord := by
  intro s
  refine ⟨rfl, rfl, rfl, rfl, rfl, fun r => ⟨_, rfl, fitsSigned_rspVal s.config s.history.length r⟩, ?_,
    fun b hb => report_response_of_fits rfl hb, fun v hv => report_response_of_fits rfl hv, ?_⟩
  case refine_1 =>
    intro b h1
    refine report_response_of_fits rfl ?_
    cases b
    · exact fitsSigned_zero _
    · exact h1
  case refine_2 =>
    intro q hqv hq
    refine report_response_of_fits ?_ hq
    rw [rspVal, hqv, quantise_floor]

end Sys2Proof.Machine
end

section
/-! SUPPORT. The codec of the function units (spec 30_encoding R85 to R92): bytes of lengths and of signed integers, the
header that DECODE reads, and what the two reassemblies read back. -/

namespace Sys2Proof.Machine

/-- A meaning that is one report of a function unit answers it from every state that accepts (R78). -/
theorem answers_of_exec {i : Instr} {r : Config → Except ErrorKind Result}
    (h : ∀ s, exec i s = answerUnit s (r s.config)) : Claims.Answers i r :=
  fun s hx ho => (h s).trans (answerUnit_open _ hx ho)

/-! ### Bytes of a length and of a signed integer (R86, R88, R89) -/

theorem lo_ofNat (n : Nat) : lo (BitVec.ofNat 16 n) = BitVec.ofNat 8 n := by
  apply BitVec.eq_of_toNat_eq
  rw [lo_toNat, BitVec.toNat_ofNat, BitVec.toNat_ofNat]
  omega

theorem hi_ofNat {n : Nat} (h : n < 65536) : hi (BitVec.ofNat 16 n) = BitVec.ofNat 8 (n / 256) := by
  apply BitVec.eq_of_toNat_eq
  rw [hi_toNat, BitVec.toNat_ofNat, BitVec.toNat_ofNat]
  omega

theorem tc8_eq_ofNat (v : Int) : tc8 v = BitVec.ofNat 8 (v % 256).toNat := by
  apply BitVec.eq_of_toNat_eq
  rw [tc8, BitVec.toNat_ofInt, BitVec.toNat_ofNat]
  omega

theorem tc16_eq_ofNat (v : Int) : tc16 v = BitVec.ofNat 16 (v % 65536).toNat := by
  apply BitVec.eq_of_toNat_eq
  rw [tc16, BitVec.toNat_ofInt, BitVec.toNat_ofNat]
  omega

theorem le16_ofNat {n : Nat} (h : n < 65536) :
    le16 (BitVec.ofNat 16 n) = [BitVec.ofNat 8 n, BitVec.ofNat 8 (n / 256)] := by
  rw [le16, lo_ofNat, hi_ofNat h]

theorem le16_tc16 (v : Int) :
    le16 (tc16 v) = [BitVec.ofNat 8 (v % 65536).toNat, BitVec.ofNat 8 ((v % 65536).toNat / 256)] := by
  rw [tc16_eq_ofNat, le16_ofNat (by omega)]

/-! ### Frames (R85 to R87) -/

theorem encodeLong_fits (opcode : Word16) (dest src : Byte) {payload : List Byte} (h : payload.length ≤ 65535) :
    encodeLong opcode dest src payload = .ok ([lo opcode, hi opcode, BitVec.ofNat 8 payload.length,
      BitVec.ofNat 8 (payload.length / 256), dest ||| dataBit, src] ++ payload) := by
  rw [encodeLong, if_neg (by omega), lo_ofNat, hi_ofNat (by omega)]

theorem encodeLong_tooLong (opcode : Word16) (dest src : Byte) {payload : List Byte} (h : ¬ payload.length ≤ 65535) :
    encodeLong opcode dest src payload = .error .outOfRange := by
  rw [encodeLong, if_pos (by omega)]

/-- DECODE answers exactly on six bytes or more (U1). -/
theorem decodeHeader_eq_none_iff {raw : List Byte} : decodeHeader raw = none ↔ raw.length < 6 := by
  unfold decodeHeader
  split
  case h_1 => simp
  case h_2 hshort =>
    refine iff_of_true rfl (Nat.lt_of_not_le fun hlen => ?_)
    match raw, hlen with
    | o0 :: o1 :: p1 :: p2 :: d :: src :: payload, _ => exact hshort o0 o1 p1 p2 d src payload rfl

/-- Any six bytes that begin with an opcode's own two decode to that opcode. -/
theorem decodeHeader_opcode (opcode : Word16) (p1 p2 dest src : Byte) (payload : List Byte) :
    decodeHeader (lo opcode :: hi opcode :: p1 :: p2 :: dest :: src :: payload) =
      some ⟨opcode, p1, p2, dest, src, payload⟩ := by
  rw [decodeHeader, word16_lo_hi]

theorem word16_eq_ofNat (b0 b1 : Byte) : word16 b0 b1 = BitVec.ofNat 16 (b0.toNat + 256 * b1.toNat) := by
  rw [← word16_toNat, BitVec.ofNat_toNat, BitVec.setWidth_eq]

/-! ### Reassembly (R89 to R92) -/

theorem b2u16_eq_toNat (b0 b1 : Byte) : b2u16 b0 b1 = (word16 b0 b1).toNat := by
  rw [word16_toNat, b2u16]
  push_cast
  rfl

/-- The only integers INT2B2 answers for, and the only bytes it answers with. -/
theorem int2b2_ok {v : Int} {bs : List Byte} (h : int2b2 v = .ok bs) :
    -32768 ≤ v ∧ v ≤ 32767 ∧ bs = le16 (tc16 v) := by
  rw [int2b2, SCALED_MIN, SCALED_MAX] at h
  split at h <;> cases h
  exact ⟨by omega, by omega, rfl⟩

theorem tc16_toInt {v : Int} (h0 : -32768 ≤ v) (h1 : v ≤ 32767) : (tc16 v).toInt = v := by
  rw [tc16, BitVec.toInt_ofInt, Int.bmod_eq_of_le] <;> omega

theorem tc16_unsigned {v : Int} (h0 : -32768 ≤ v) (h1 : v ≤ 32767) :
    ((tc16 v).toNat : Int) = if 0 ≤ v then v else v + 65536 := by
  rw [tc16, BitVec.toNat_ofInt]
  split <;> omega

/-! ### The statements -/

/-- Settles O16: the range check is the statement's own, and the bytes are those of `v` modulo the field. -/
theorem signedConversions : Obligations.SignedConversions := by
  refine ⟨fun v => answers_of_exec fun s => ?oneByte, fun v => answers_of_exec fun s => ?twoBytes⟩
  case oneByte =>
    rw [exec, execInt2b1, int2b1, tc8_eq_ofNat]
    split <;> rfl
  case twoBytes =>
    rw [exec, execInt2b2, int2b2, SCALED_MIN, SCALED_MAX, le16_tc16]
    split <;> rfl

/-- Settles O18: DECODE undoes both encoders field by field, and INT2B2's bytes are read back as the 16-bit field. -/
theorem codecLaws : Obligations.CodecLaws := by
  refine ⟨fun o p1 p2 d src => ⟨rfl, decodeHeader_opcode ..⟩, fun o d src p bs h => ?long, fun v b0 b1 h => ?reassembly⟩
  case long =>
    by_cases hlen : p.length ≤ 65535
    · rw [encodeLong_fits o d src hlen] at h
      cases h
      have hlow : BitVec.ofNat 8 (p.length % 256) = BitVec.ofNat 8 p.length := BitVec.eq_of_toNat_eq (by simp)
      rw [hlow]
      exact ⟨List.length_append, decodeHeader_opcode ..⟩
    · rw [encodeLong_tooLong o d src hlen] at h
      cases h
  case reassembly =>
    obtain ⟨h0, h1, hbs⟩ := int2b2_ok h
    cases hbs
    rw [b2i16_eq_toInt, b2u16_eq_toNat, word16_lo_hi]
    exact ⟨tc16_toInt h0 h1, tc16_unsigned h0 h1⟩

/-- Settles O14: the two encoders' bytes, by the length of the payload. -/
theorem frameEncoders : Obligations.FrameEncoders := by
  refine ⟨fun op p1 p2 d src => answers_of_exec fun s => rfl, fun op d src payload => answers_of_exec fun s => ?_⟩
  rw [exec, execEncodeLong]
  split
  case isTrue hlen => rw [encodeLong_fits op d src hlen]; rfl
  case isFalse hlen => rw [encodeLong_tooLong op d src hlen]; rfl

/-- Settles O15: the opcode is the first two bytes' 16-bit field; shorter input has no header. -/
theorem decodeReturnsTheFields : Obligations.DecodeReturnsTheFields := by
  refine ⟨fun o0 o1 p1 p2 d src payload => answers_of_exec fun s => ?_, fun raw s hlen => ?_⟩
  · rw [← word16_eq_ofNat]
    rfl
  · rw [exec, execDecodeRaw, decodeHeader_eq_none_iff.2 hlen]

/-- Settles O17: both units report the value of R90 and R91 as it is written there. -/
theorem sixteenBitReassembly : Obligations.SixteenBitReassembly := by
  refine ⟨fun b0 b1 => answers_of_exec fun _ => rfl, fun b0 b1 => answers_of_exec fun s => ?_⟩
  have hsign : b2u16 b0 b1 < 32768 ↔ b0.toNat + 256 * b1.toNat < 32768 := by
    rw [b2u16]
    omega
  simp only [exec, execB2i16, b2i16, hsign]
  rfl

end Sys2Proof.Machine
end

section
/-! SUPPORT. Rounding (spec 41_unit_scaler R101): what the rounding of an exact quotient is in each case, how far from the
quotient it lies, and that it is monotonic under every tie rule. -/

namespace Sys2Proof.Machine

open Claims

theorem roundQ_of_lt {n : Int} {d : Nat} (h : 2 * (n % d) < d) (tie : TieRule) : roundQ tie n d = n / d :=
  if_pos h

theorem roundQ_of_gt {n : Int} {d : Nat} (h : (d : Int) < 2 * (n % d)) (tie : TieRule) :
    roundQ tie n d = n / d + 1 :=
  (if_neg (by omega)).trans (if_pos h)

/-- At a tie half to even is the one of the two neighbours that is even. -/
theorem roundQ_halfEven_of_tie {n : Int} {d : Nat} (h : 2 * (n % d) = d) :
    roundQ .halfEven n d = if n / d % 2 = 0 then n / d else n / d + 1 := by
  rw [roundQ, if_neg (by omega), if_neg (by omega)]

/-- Under every tie rule the rounding is the quotient's floor or the integer after it. -/
theorem roundQ_eq_or (tie : TieRule) (n : Int) (d : Nat) : roundQ tie n d = n / d ∨ roundQ tie n d = n / d + 1 := by
  unfold roundQ
  cases tie <;> dsimp only <;> split_ifs <;> simp

/-! ### The rounding over the rationals -/

/-- The rational compares its fraction with 1/2, the model twice the remainder with the divisor. -/
theorem fract_compare_half_iff (n : Int) {d : Nat} (hd : 0 < d) :
    ((n : ℚ) / d - ⌊(n : ℚ) / d⌋ < 1 / 2 ↔ 2 * (n % d) < (d : Int)) ∧
    (1 / 2 < (n : ℚ) / d - ⌊(n : ℚ) / d⌋ ↔ (d : Int) < 2 * (n % d)) ∧
    ((n : ℚ) / d - ⌊(n : ℚ) / d⌋ = 1 / 2 ↔ 2 * (n % d) = (d : Int)) := by
  have hd' : (0 : ℚ) < d := by exact_mod_cast hd
  rw [Int.self_sub_floor, Int.fract_div_intCast_eq_div_intCast_mod, div_lt_div_iff₀ hd' two_pos,
    div_lt_div_iff₀ two_pos hd', div_eq_div_iff hd'.ne' two_ne_zero, one_mul, mul_comm _ (2 : ℚ)]
  norm_cast

/-- Half to even is the spec's `round_he`. -/
theorem roundQ_isRoundHe (n : Int) {d : Nat} (hd : 0 < d) : IsRoundHe ((n : ℚ) / d) (roundQ .halfEven n d) := by
  obtain ⟨hlt, hgt, htie⟩ := fract_compare_half_iff n hd
  rw [IsRoundHe, hlt, hgt, htie, Rat.floor_intCast_div_natCast]
  refine ⟨fun h => roundQ_of_lt h _, fun h => roundQ_of_gt h _, fun h => ⟨roundQ_eq_or _ n d, ?_⟩⟩
  rw [roundQ_halfEven_of_tie h, Int.even_iff]
  split <;> omega

/-- Negating the quotient mirrors floor and remainder, and a tie's even neighbour stays the even one. -/
theorem roundQ_halfEven_neg (n : Int) {d : Nat} (hd : 0 < d) : roundQ .halfEven (-n) d = -roundQ .halfEven n d := by
  have hd' : (0 : Int) < d := by omega
  by_cases hdvd : (d : Int) ∣ n
  · have hdiv : -n / (d : Int) = -(n / d) := Int.neg_ediv_of_dvd hdvd
    have hmod : -n % (d : Int) = 0 := Int.emod_eq_zero_of_dvd hdvd.neg_right
    have hmod' : n % (d : Int) = 0 := Int.emod_eq_zero_of_dvd hdvd
    rw [roundQ_of_lt (by omega), roundQ_of_lt (by omega), hdiv]
  · have hdiv : -n / (d : Int) = -(n / d) - 1 := by
      rw [Int.neg_ediv, if_neg hdvd, Int.sign_eq_one_of_pos hd']
    have hmod : -n % (d : Int) = d - n % d := by
      rw [Int.neg_emod, if_neg hdvd, Int.natAbs_natCast]
    rcases lt_trichotomy (2 * (n % (d : Int))) d with h | h | h
    · rw [roundQ_of_lt h, roundQ_of_gt (by omega), hdiv]
      omega
    · rw [roundQ_halfEven_of_tie h, roundQ_halfEven_of_tie (by omega), hdiv]
      split <;> split <;> omega
    · rw [roundQ_of_gt h, roundQ_of_lt (by omega), hdiv]
      omega

/-- Settles O19: the three cases of `round_he`, and the mirror image. -/
theorem roundHalfToEven : Obligations.RoundHalfToEven :=
  fun n _ hd => ⟨roundQ_isRoundHe n hd, roundQ_halfEven_neg n hd⟩

/-! ### Distance and monotonicity -/

/-- The rounding lies within half a divisor of the dividend. -/
theorem roundQ_near (tie : TieRule) (n : Int) {d : Nat} (hd : 0 < d) :
    |2 * (roundQ tie n d * d - n)| ≤ d := by
  have hdecomp := Int.mul_ediv_add_emod n d
  have hnonneg := Int.emod_nonneg n (by omega : (d : Int) ≠ 0)
  have hless := Int.emod_lt_of_pos n (by omega : (0 : Int) < d)
  rw [mul_comm] at hdecomp
  rw [abs_le]
  rcases lt_trichotomy (2 * (n % (d : Int))) d with h | h | h
  · rw [roundQ_of_lt h]
    omega
  · rcases roundQ_eq_or tie n d with e | e
    · rw [e]
      omega
    · rw [e, add_mul]
      omega
  · rw [roundQ_of_gt h, add_mul]
    omega

theorem abs_roundQ_sub_le (tie : TieRule) (n : Int) {d : Nat} (hd : 0 < d) :
    |(roundQ tie n d : ℚ) - (n : ℚ) / d| ≤ 1 / 2 := by
  have hd' : (0 : ℚ) < d := by exact_mod_cast hd
  have hnear : |2 * ((roundQ tie n d : ℚ) * d - n)| ≤ d := by exact_mod_cast roundQ_near tie n hd
  have hscale : (roundQ tie n d : ℚ) - (n : ℚ) / d = 2 * ((roundQ tie n d : ℚ) * d - n) / (2 * d) := by
    field_simp
  rw [hscale, abs_div, abs_of_pos (by positivity : (0 : ℚ) < 2 * d), div_le_div_iff₀ (by positivity) two_pos]
  linarith

/-- Dividends over one divisor: with the floors equal the remainders are ordered, and equal at a common tie. -/
theorem roundQ_mono (tie : TieRule) {m n : Int} {d : Nat} (hd : 0 < d) (h : m ≤ n) :
    roundQ tie m d ≤ roundQ tie n d := by
  have hfloor : m / (d : Int) ≤ n / d := Int.ediv_le_ediv (by omega) h
  rcases hfloor.lt_or_eq with hlt | heq
  · have := roundQ_eq_or tie m d
    have := roundQ_eq_or tie n d
    omega
  · have hm := Int.mul_ediv_add_emod m d
    have hn := Int.mul_ediv_add_emod n d
    rw [heq] at hm
    rcases h.eq_or_lt with rfl | hlt
    · exact le_rfl
    · rcases lt_or_ge (2 * (m % (d : Int))) d with hlow | hhigh
      · rw [roundQ_of_lt hlow, heq]
        have := roundQ_eq_or tie n d
        omega
      · rw [roundQ_of_gt (n := n) (by omega), ← heq]
        have := roundQ_eq_or tie m d
        omega

theorem roundQ_mono_of_div_le (tie : TieRule) {m n : Int} {d e : Nat} (hd : 0 < d) (he : 0 < e)
    (h : (m : ℚ) / d ≤ n / e) : roundQ tie m d ≤ roundQ tie n e := by
  rw [div_le_div_iff₀ (by exact_mod_cast hd) (by exact_mod_cast he)] at h
  rw [← roundQ_mul_left tie he m d, ← roundQ_mul_left tie hd n e, mul_comm d e]
  refine roundQ_mono tie (Nat.mul_pos he hd) ?_
  rw [mul_comm (e : Int), mul_comm (d : Int)]
  exact_mod_cast h

end Sys2Proof.Machine
end

section
/-! SUPPORT. The four conversions of the Unit Scaler (spec 41_unit_scaler R103 to R106), their laws (R108) and the bounds
of a round trip (R109, R110). -/

namespace Sys2Proof.Machine

/-! ### The function units -/

/-- The ScaledValue check on a unit's result port (R103, R105). -/
theorem checkScaled_map_int (z : Int) :
    (checkScaled z).map Result.int = if z < -32768 ∨ z > 32767 then .error .outOfRange else .ok (.int z) := by
  rw [checkScaled]
  split <;> rfl

/-- Settles O20: the dividend `pos * 32767` over the maximum, rounded by `round_he`. -/
theorem positionToScaled : Obligations.PositionToScaled := by
  intro pos max s hx ho htie
  refine ⟨roundQ .halfEven (pos * 32767) max.val, ?_, ?_⟩
  · have h := roundQ_isRoundHe (pos * 32767) max.val_pos
    push_cast at h
    exact h
  · rw [exec, execPos2Scaled, answerUnit_open _ hx ho, posToScaled, htie, checkScaled_map_int]

/-- Settles O22: the same with the denominator of the voltage in the divisor. -/
theorem voltageToScaled : Obligations.VoltageToScaled := by
  intro v max s hx ho htie
  refine ⟨roundQ .halfEven (v.num * 32767) (v.den * max.val), ?_, ?_⟩
  · have h := roundQ_isRoundHe (v.num * 32767) (Nat.mul_pos v.den_pos max.val_pos)
    push_cast at h
    rwa [div_mul_eq_mul_div, div_div]
  · rw [exec, execVolt2Scaled, answerUnit_open _ hx ho, voltToScaled, htie, checkScaled_map_int]

theorem scaledToPos_eq_floor (raw : Int) (max : Nat) : scaledToPos raw max = ⌊(raw : ℚ) * max / 32767⌋ := by
  have h := Rat.floor_intCast_div_natCast (raw * max) 32767
  push_cast at h
  exact h.symm

theorem scaledToVolt_value (raw : Int) (max : Nat) :
    ((scaledToVolt raw max).num : ℚ) / (scaledToVolt raw max).den = (raw : ℚ) * max / 32767 := by
  simp [scaledToVolt]

/-- Settles O21: the unit reports the floor of the exact quotient of the unsigned value. -/
theorem scaledToPosition : Obligations.ScaledToPosition := by
  refine fun raw max => answers_of_exec fun s => ?_
  rw [exec, execScaled2Pos, scaledToPos_eq_floor, Int.cast_natCast]

/-- Settles O23: the unit reports the exact quotient of the signed value. -/
theorem scaledToVoltage : Obligations.ScaledToVoltage :=
  fun raw max _ hx ho => ⟨scaledToVolt raw.toInt max.val, scaledToVolt_value _ _, answerUnit_open _ hx ho⟩

/-! ### Laws (R108) -/

/-- A position is a voltage of denominator 1: the two encodings are one formula. -/
theorem posToScaled_eq_voltToScaled (tie : TieRule) (pos : Int) (max : Nat) :
    posToScaled tie pos max = voltToScaled tie pos 1 max := by
  rw [posToScaled, voltToScaled, one_mul]

/-- What is accepted scales, into 0..32767 (law 1). -/
theorem voltToScaled_of_accepted (tie : TieRule) {num : Int} {den max : Nat} (hden : 0 < den) (hmax : 0 < max)
    (h0 : 0 ≤ num) (h1 : (num : ℚ) / den ≤ max) :
    voltToScaled tie num den max = .ok (roundQ tie (num * 32767) (den * max)) ∧
      0 ≤ roundQ tie (num * 32767) (den * max) ∧ roundQ tie (num * 32767) (den * max) ≤ 32767 := by
  rw [div_le_iff₀ (by exact_mod_cast hden)] at h1
  have hnum : num ≤ (den * max : Nat) := by
    rw [mul_comm]
    exact_mod_cast h1
  have hz0 : 0 ≤ roundQ tie (num * 32767) (den * max) := roundQ_nonneg tie (by omega) _
  have hz1 : roundQ tie (num * 32767) (den * max) ≤ 32767 := roundQ_le (Nat.mul_pos hden hmax) (by omega)
  exact ⟨checkScaled_of_range hz0 hz1, hz0, hz1⟩

/-- An answer of VOLT2SCALED is the rounding (R105). -/
theorem voltToScaled_ok {tie : TieRule} {num : Int} {den max : Nat} {z : Int}
    (h : voltToScaled tie num den max = .ok z) : z = roundQ tie (num * 32767) (den * max) :=
  (checkScaled_ok h).1

/-- Law 2. -/
theorem voltToScaled_mono {tie : TieRule} {m n : Int} {d e max : Nat} {y z : Int} (hd : 0 < d) (he : 0 < e)
    (hmax : 0 < max) (h : (m : ℚ) / d ≤ n / e) (hy : voltToScaled tie m d max = .ok y)
    (hz : voltToScaled tie n e max = .ok z) : y ≤ z := by
  rw [voltToScaled_ok hy, voltToScaled_ok hz]
  refine roundQ_mono_of_div_le tie (Nat.mul_pos hd hmax) (Nat.mul_pos he hmax) ?_
  push_cast
  rw [mul_div_mul_comm, mul_div_mul_comm]
  gcongr

theorem scaledToPos_mono {r q : Int} (h : r ≤ q) (max : Nat) : scaledToPos r max ≤ scaledToPos q max :=
  Int.ediv_le_ediv (by decide) (mul_le_mul_of_nonneg_right h (by omega))

theorem scaledToVolt_strictMono {r q : Int} (h : r < q) {max : Nat} (hmax : 0 < max) :
    ((scaledToVolt r max).num : ℚ) / (scaledToVolt r max).den <
      (scaledToVolt q max).num / (scaledToVolt q max).den := by
  rw [scaledToVolt_value, scaledToVolt_value]
  gcongr

/-- Settles O24: the laws of a voltage, and of a position as one over 1. -/
theorem scalerLaws : Obligations.ScalerLaws := by
  refine ⟨fun tie v max hmax h0 h1 => ?_, fun tie v max hmax h0 h1 => ?_, fun tie v w max y z hmax h hy hz => ?_,
    fun tie v w max y z hmax h hy hz => voltToScaled_mono v.den_pos w.den_pos hmax h hy hz,
    fun tie v w d e hd he h => roundQ_mono_of_div_le tie hd he h, fun r q max h => scaledToPos_mono h max,
    fun r q max hmax h => scaledToVolt_strictMono h hmax⟩
  · rw [posToScaled_eq_voltToScaled]
    exact ⟨_, voltToScaled_of_accepted tie Nat.one_pos hmax h0 (by simpa using mod_cast h1)⟩
  · exact ⟨_, voltToScaled_of_accepted tie v.den_pos hmax h0 h1⟩
  · rw [posToScaled_eq_voltToScaled] at hy hz
    exact voltToScaled_mono Nat.one_pos Nat.one_pos hmax (by simpa using h) hy hz

/-! ### Round trips (R109, R110) -/

/-- The rounding moves a voltage by at most half a scaled step, the exact decode by nothing. -/
theorem abs_roundTrip_le (tie : TieRule) (num : Int) {den max : Nat} (hden : 0 < den) (hmax : 0 < max) :
    |(roundQ tie (num * 32767) (den * max) : ℚ) * max / 32767 - (num : ℚ) / den| ≤ (max : ℚ) / 65534 := by
  have hden' : (0 : ℚ) < den := by exact_mod_cast hden
  have hmax' : (0 : ℚ) < max := by exact_mod_cast hmax
  have hround := abs_roundQ_sub_le tie (num * 32767) (Nat.mul_pos hden hmax)
  push_cast at hround
  have hscale : (roundQ tie (num * 32767) (den * max) : ℚ) * max / 32767 - (num : ℚ) / den =
      ((roundQ tie (num * 32767) (den * max) : ℚ) - (num : ℚ) * 32767 / (den * max)) * (max / 32767) := by
    field_simp
  rw [hscale, abs_mul, abs_of_pos (by positivity : (0 : ℚ) < max / 32767)]
  calc _ ≤ 1 / 2 * ((max : ℚ) / 32767) := by gcongr
    _ = max / 65534 := by ring

/-- Settles O26: an accepted voltage's scaled value is the rounding, decoded without one. -/
theorem voltageRoundTripBound : Obligations.VoltageRoundTripBound := by
  intro v max hmax h0 h1
  refine ⟨_, (voltToScaled_of_accepted .halfEven v.den_pos hmax h0 h1).1, ?_⟩
  rw [scaledToVolt_value]
  exact abs_roundTrip_le .halfEven v.num v.den_pos hmax

/-- The floor of the decode takes off less than 1 more (R109). -/
theorem positionRoundTrip {pos : Int} {max : Nat} (hmax : 0 < max) (h0 : 0 ≤ pos) (h1 : pos ≤ max) :
    ∃ z, posToScaled .halfEven pos max = .ok z ∧ -1 - (max : ℚ) / 32767 / 2 < (scaledToPos z max - pos : Int) ∧
      ((scaledToPos z max - pos : Int) : ℚ) ≤ (max : ℚ) / 32767 / 2 := by
  rw [posToScaled_eq_voltToScaled]
  refine ⟨_, (voltToScaled_of_accepted .halfEven Nat.one_pos hmax h0 (by simpa using mod_cast h1)).1, ?_⟩
  have htrip := abs_le.1 (abs_roundTrip_le .halfEven pos Nat.one_pos hmax)
  rw [Nat.cast_one, div_one] at htrip
  rw [scaledToPos_eq_floor, Int.cast_sub]
  have hle := Int.floor_le ((roundQ .halfEven (pos * 32767) (1 * max) : ℚ) * max / 32767)
  have hlt := Int.lt_floor_add_one ((roundQ .halfEven (pos * 32767) (1 * max) : ℚ) * max / 32767)
  constructor <;> linarith

/-- Settles O25: at 30000 nm the interval holds no integers but -1 and 0. -/
theorem positionRoundTripBound : Obligations.PositionRoundTripBound := by
  refine ⟨fun pos max hmax h0 h1 => positionRoundTrip hmax h0 h1, fun pos h0 h1 => ?_⟩
  obtain ⟨z, hz, hlow, hhigh⟩ := positionRoundTrip (max := 30000) (by decide) h0 h1
  refine ⟨z, hz, ?_⟩
  have hgt : (-2 : Int) < scaledToPos z 30000 - pos := by
    have : ((-2 : Int) : ℚ) < (scaledToPos z 30000 - pos : Int) := lt_trans (by norm_num) hlow
    exact_mod_cast this
  have hlt : scaledToPos z 30000 - pos < 1 := by
    have : ((scaledToPos z 30000 - pos : Int) : ℚ) < (1 : Int) := lt_of_le_of_lt hhigh (by norm_num)
    exact_mod_cast this
  omega

end Sys2Proof.Machine
end

section
/-! SUPPORT. The commands that use the Unit Scaler: GETVOLT (spec 44_channel_queries R144), POSITION and SETVOLT
(43_channel_commands R127, R128). -/

namespace Sys2Proof.Machine

open Safety Claims

/-- GETVOLT on a reply that is there: the request, the reply, the exact value (R144). -/
theorem exec_getVolt_completes {s : State} (ha : Accepts s) (hl : configLegal s.config = true) (hv : NoFailure s)
    (hb : s.rxBuf = []) (hlen : 10 ≤ s.rxStream.length) (c : Chan) :
    exec (.getVolt (chanByte c)) s =
      .next (report (.ok (.ratio (scaledToVolt (readingOf s.rxStream) s.cfgMaxVolt)))
        (played [.tx (voltRequest s c), .rx 10 (s.rxStream.take 10)] s)) := by
  rw [exec, execGetVolt, channelCommand_eq ha (chanOf_chanByte c), getVoltBody,
    voltQuery_completes (.of_accepts ha hl hb) rfl (.of_noFailure hv 2) c hlen, Run.andThen_ret, voltFinish,
    b2i16_eq_readingOf, readingOf_take]
  rfl

/-- Settles O35: the exact rational, and what the spec's `QV` makes of it. -/
theorem getVoltReturnsTheRational : Obligations.GetVoltReturnsTheRational := by
  intro s c ha hl hv hb hlen
  have hvalue := scaledToVolt_value (readingOf s.rxStream) s.cfgMaxVolt
  refine ⟨_, _, hvalue, rfl, exec_getVolt_completes ha hl hv hb hlen c, fun hqv hfits => ?_⟩
  refine report_response_of_fits ?_ hfits
  rw [← hvalue, ← quantise_floor, ← hqv]
  rfl

/-- POSITION of a ready channel in range is the write of its frame (R127). -/
theorem positionBody_eq {s : State} (hl : configLegal s.config = true) (hmax : s.cfgMaxPos ≠ 0) {pos : Int} {c : Chan}
    (hseq : s.seq.get c = .closedLoopReady) (h0 : 0 ≤ pos) (h1 : pos ≤ s.cfgMaxPos) :
    positionBody pos c s =
      (txWrite (longOf s.config c 0x46 (roundQ s.config.tie (pos * 32767) s.cfgMaxPos)) s).andThen noResult := by
  obtain ⟨hscaled, hz0, hz1⟩ := voltToScaled_of_accepted s.config.tie Nat.one_pos (Nat.pos_of_ne_zero hmax) h0
    (by simpa using mod_cast h1)
  rw [one_mul] at hscaled hz0 hz1
  rw [positionBody, if_neg (not_not.2 hseq), if_neg (by omega), posToScaled_eq_voltToScaled, hscaled, liftExcept_ok,
    Run.andThen_ret, sendLong_eq hl (by decide) c hz0 hz1]
  rfl

/-- Settles O36: the write completes. -/
theorem positionMovesAReadyChannel : Obligations.PositionMovesAReadyChannel := by
  intro s c pos ha hl hv hseq h0 h1
  have ⟨_, _, hmax, _⟩ := ha
  rw [exec, execPosition, channelCommand_eq ha (chanOf_chanByte c), positionBody_eq hl hmax hseq h0 h1,
    txWrite_completes (headD_completes hv)]
  rfl

/-- SETVOLT out of range raises its error before any byte (R128). -/
theorem setVoltBody_outOfRange {s : State} {volts : Int} (h : volts < 0 ∨ volts > s.cfgMaxVolt) (c : Chan) :
    setVoltBody volts 1 c s = .raised s .outOfRange := by
  rw [setVoltBody, Nat.cast_one, mul_one, if_pos h]

/-- Settles O38: in range the write completes, out of range the error comes first. -/
theorem setVoltScalesOrRejects : Obligations.SetVoltScalesOrRejects := by
  intro s c volts ha
  have ⟨_, _, _, hmax⟩ := ha
  refine ⟨fun hl hv h0 h1 => ?_, fun h => ?_⟩
  · rw [exec, execSetVolt, channelCommand_eq ha (chanOf_chanByte c),
      setVoltBody_eq hl hmax Nat.one_pos h0 (by omega), one_mul, txWrite_completes (headD_completes hv)]
    rfl
  · rw [exec, execSetVolt, channelCommand_eq ha (chanOf_chanByte c), setVoltBody_outOfRange h]
    rfl

end Sys2Proof.Machine
end

section
/-! SUPPORT. The Channel Registry (spec 42_channel_registry R115, R116): the table of bay addresses, and the commands
whose channel operand is not in it. -/

namespace Sys2Proof.Machine

open Safety Claims

theorem bayAddress_eq (id : Int) : bayAddress id =
    if id = 1 then .ok 0x21 else if id = 2 then .ok 0x22 else if id = 3 then .ok 0x23 else .error .invalidChannel := by
  rw [bayAddress, chanOf]
  split_ifs <;> rfl

/-- Two bytes are equal where the ids they stand for are. -/
theorem byte_toNat_eq_iff (ch n : Byte) : ((ch.toNat : Int) = n.toNat) ↔ ch = n :=
  Nat.cast_inj.trans BitVec.toNat_inj

/-- The table on the byte of the command port (R76, R115). -/
theorem bayAddress_byte (ch : Byte) : (bayAddress (ch.toNat : Int)).map Result.byte =
    if ch = 1 then .ok (.byte 0x21) else if ch = 2 then .ok (.byte 0x22) else if ch = 3 then .ok (.byte 0x23)
    else .error .invalidChannel := by
  simp only [bayAddress_eq, ← byte_toNat_eq_iff, apply_ite (Except.map Result.byte)]
  rfl

/-- Settles O28: the table for every id, and the unit's answer is the table on its byte. -/
theorem bayAddressTable : Obligations.BayAddressTable :=
  ⟨bayAddress_eq, fun ch => answers_of_exec fun s => congrArg (answerUnit s) (bayAddress_byte ch)⟩

theorem chanOf_invalid {ch : Byte} (h1 : ch ≠ 1) (h2 : ch ≠ 2) (h3 : ch ≠ 3) : chanOf (ch.toNat : Int) = none := by
  have hid {n : Byte} (h : ch ≠ n) : (ch.toNat : Int) ≠ n.toNat := mt (byte_toNat_eq_iff ch n).1 h
  exact (if_neg (hid h1)).trans ((if_neg (hid h2)).trans (if_neg (hid h3)))

/-- A channel-taking command is accepted, then looks its channel up, and only then runs anything else (R116). -/
theorem exec_of_channelOperand {i : Instr} {ch : Byte} (h : channelOperand i = some ch) :
    ∃ body : Chan → State → Run Result, ∀ s, exec i s = runCommand s fun s => withChannel ch s body := by
  cases i with
  | enable | disable | setMode | zero | pollZero | position | getPosition | setVolt | getVolt | rampVolt | getMode
  | getEnable =>
    cases h
    exact ⟨_, fun _ => rfl⟩
  | _ => cases h

/-- Settles O42: the lookup that comes first finds no channel. -/
theorem invalidChannelComesFirst : Obligations.InvalidChannelComesFirst := by
  intro s i ch ha hop h1 h2 h3
  obtain ⟨body, hexec⟩ := exec_of_channelOperand hop
  rw [hexec, runCommand_accepts ha, withChannel_invalid (chanOf_invalid h1 h2 h3)]
  rfl

end Sys2Proof.Machine
end

section
/-! SUPPORT. Which command makes a channel ready (spec 43_channel_commands R126, R129, R130): the ways the pseudocode of
the commands that write `seq` can end, and what the register of the channel holds then. -/

namespace Sys2Proof.Machine

open Safety Claims

/-! ### Pseudocode that does not wait -/

/-- The pseudocode returns in a state with `P` or raises an error in one with `Q`; it never waits. -/
def Run.Ends {α : Type} (P Q : State → Prop) : Run α → Prop
  | .ret s _ => P s
  | .raised s _ => Q s
  | .blocked _ => False

theorem Run.Ends.imp {α : Type} {P Q P' Q' : State → Prop} {r : Run α} (h : r.Ends P Q) (hP : ∀ t, P t → P' t)
    (hQ : ∀ t, Q t → Q' t) : r.Ends P' Q' := by
  cases r with
  | ret t a => exact hP t h
  | raised t e => exact hQ t h
  | blocked t => exact h.elim

theorem Run.Ends.andThen {α β : Type} {P Q P' Q' : State → Prop} {r : Run α} {f : State → α → Run β}
    (h : r.Ends P Q) (hf : ∀ t a, P t → (f t a).Ends P' Q') (hQ : ∀ t, Q t → Q' t) : (r.andThen f).Ends P' Q' := by
  cases r with
  | ret t a => exact hf t a h
  | raised t e => exact hQ t h
  | blocked t => exact h.elim

theorem Run.Ends.all {α : Type} {P : State → Prop} {r : Run α} (h : r.Ends P P) : r.All P := by
  cases r with
  | ret t a => exact h
  | raised t e => exact h
  | blocked t => exact h.elim

section
variable {s t : State}

/-- What a short frame leaves: one `Tx` event where it was written, nothing in the history where it was not (R54). -/
theorem sendShort_ends (opcode : Word16) (c : Chan) (p2 : Int) (s : State) :
    (sendShort opcode c p2 s).Ends (fun t => t.seq = s.seq ∧ ∃ frame, t.history = s.history ++ [.tx frame])
      (fun t => t.seq = s.seq ∧ t.history = s.history) := by
  unfold sendShort
  cases shortFrame s.config opcode c p2 with
  | error e => exact ⟨rfl, rfl⟩
  | ok frame =>
    obtain ⟨-, e⟩ | ⟨moved, -, e⟩ := txWrite_cases frame s
    · rw [liftExcept_ok, Run.andThen_ret, e]
      exact ⟨rfl, frame, rfl⟩
    · rw [liftExcept_ok, Run.andThen_ret, e]
      exact ⟨rfl, rfl⟩

/-- One short frame, then `seq[c] <- v`: the shape of ENABLE, DISABLE and the second half of ZERO (R122, R123, R125). -/
theorem sendShort_setSeq_ends (opcode : Word16) (p2 : Int) (c : Chan) (v : Seq) (s : State) :
    ((sendShort opcode c p2 s).andThen fun t _ => .ret (t.setSeq c v) ()).Ends (fun t => t.seq = s.seq.set c v)
      (fun t => t.seq = s.seq) :=
  (sendShort_ends opcode c p2 s).andThen (fun _ _ ht => congrArg (PerChan.set · c v) ht.1) fun _ ht => ht.1

theorem enableBody_ends (c : Chan) (s : State) :
    (enableBody c s).Ends (fun t => t.seq = s.seq.set c .enabled) (fun t => t.seq = s.seq) :=
  sendShort_setSeq_ends _ _ c _ s

theorem disableBody_ends (c : Chan) (s : State) :
    (disableBody c s).Ends (fun t => t.seq = s.seq.set c .disabled) (fun t => t.seq = s.seq) :=
  sendShort_setSeq_ends _ _ c _ s

/-- ZERO that fails has enabled the channel or written no register (R125, R165). -/
theorem zeroBody_ends (c : Chan) (s : State) :
    (zeroBody c s).Ends (fun t => t.seq = s.seq.set c .zeroRequested)
      (fun t => t.seq = s.seq ∨ t.seq = s.seq.set c .enabled) := by
  refine (enableBody_ends c s).andThen (fun t _ ht => ?_) fun _ => .inl
  refine (sendShort_setSeq_ends _ _ c _ t).imp (fun u hu => ?_) fun u hu => .inr (hu.trans ht)
  rw [hu, ht, PerChan.set_set]

/-- A command that returns no value and never waits reports its success or its error. -/
theorem conclude_noResult_next {P Q : State → Prop} {r : Run Unit} (hr : r.Ends P Q)
    (h : conclude (r.andThen noResult) = .next t) :
    (∃ u, P u ∧ t = report (.ok .nothing) u) ∨ ∃ u e, Q u ∧ t = report (.error e) u := by
  cases r with
  | ret u a => cases h; exact .inl ⟨u, hr, rfl⟩
  | raised u e => cases h; exact .inr ⟨u, e, hr, rfl⟩
  | blocked u => exact hr.elim

/-! ### No channel made ready -/

/-- Whatever channel is ready in `t` was ready in `s`. -/
def NoNewReady (s t : State) : Prop := ∀ c, t.seq.get c = .closedLoopReady → s.seq.get c = .closedLoopReady

theorem noNewReady_of_seq_eq (h : t.seq = s.seq) : NoNewReady s t := fun _ hc => h ▸ hc

theorem noNewReady_of_seq_set {c : Chan} {v : Seq} (hv : v ≠ .closedLoopReady) (h : t.seq = s.seq.set c v) :
    NoNewReady s t := by
  intro d hd
  rw [h, PerChan.get_set] at hd
  split at hd
  · exact absurd hd hv
  · exact hd

theorem writeCommand_noNewReady {ch : Byte} {body : Chan → State → Run Unit} {P Q : Chan → State → Prop}
    (hbody : ∀ c, (body c s).Ends (P c) (Q c)) (hP : ∀ c u, P c u → NoNewReady s u)
    (hQ : ∀ c u, Q c u → NoNewReady s u)
    (h : runCommand s (fun s => withChannel ch s fun c s => (body c s).andThen noResult) = .next t) :
    NoNewReady s t := by
  have hrun : (withChannel ch s fun c s => (body c s).andThen noResult).All (NoNewReady s) :=
    withChannel_all (noNewReady_of_seq_eq rfl) fun c =>
      Run.all_andThen ((hbody c).imp (hP c) (hQ c)).all fun _ u hu => noResult_all hu u
  obtain hk | ⟨u, r, hk, rfl⟩ := conclude_all hrun (runCommand_next h).2
  · exact hk
  · exact hk

/-! ### The reply of a POLLZERO (R126) -/

/-- `t` is the block once a POLLZERO of channel `d` that stood at `s` has read `raw` and reported. -/
structure Polled (d : Chan) (raw : List Byte) (s t : State) : Prop where
  history : t.history = s.history ++ [.rx 6 raw, .done (.bool (raw.getD 3 0 == 0x02))]
  seq     : t.seq = if raw.getD 3 0 = 0x02 then s.seq.set d .closedLoopReady else s.seq

/-- A poll that made a channel ready was of that channel, read the status `0x02` and is the last thing that happened. -/
theorem Polled.of_new_ready {u : State} {d c : Chan} {raw : List Byte} (h : Polled d raw u t) (hu : u.seq = s.seq)
    (hready : t.seq.get c = .closedLoopReady) (hnot : s.seq.get c ≠ .closedLoopReady) :
    c = d ∧ ∃ hist raw, t.history = hist ++ [.rx 6 raw, .done (.bool true)] ∧ raw.getD 3 0 = 0x02 := by
  rw [h.seq, hu] at hready
  split at hready
  case isFalse => exact absurd hready hnot
  case isTrue hstatus =>
    rw [PerChan.get_set] at hready
    split at hready
    case isTrue hcd => exact ⟨hcd, u.history, raw, by rw [h.history, hstatus]; rfl, hstatus⟩
    case isFalse => exact absurd hready hnot

/-- A poll that has its reply reports whether the status is `0x02`, and sets the register just then. -/
theorem conclude_pollFinish {d : Chan} {raw : List Byte} {u : State} (h : conclude (pollFinish d raw u) = .next t)
    (hu : u.history = s.history ++ [.rx 6 raw]) (hseq : u.seq = s.seq) : Polled d raw s t := by
  by_cases hstatus : raw.getD 3 0 = 0x02
  · rw [pollFinish_ready hstatus] at h
    cases h
    refine ⟨?_, ?_⟩
    · rw [report_history, State.setSeq_history, hu, List.append_assoc, hstatus]
      rfl
    · rw [if_pos hstatus, report_seq, State.setSeq_seq, hseq]
  · rw [pollFinish_notReady hstatus] at h
    cases h
    refine ⟨?_, ?_⟩
    · rw [report_history, hu, List.append_assoc, beq_eq_false_iff_ne.2 hstatus]
      rfl
    · rw [if_neg hstatus, report_seq, hseq]

/-- The read of a POLLZERO and the rest of it: the poll, or a failed read, or one that waits. -/
theorem pollReply_next {d : Chan}
    (h : conclude ((rxRead (.pollZero d) s).andThen fun u raw => pollFinish d raw u) = .next t) :
    (∃ raw, Polled d raw s t) ∨
      t.seq = s.seq ∧ (t.history = s.history ++ [.error .transportFailure] ∨ t.history = s.history) := by
  obtain ⟨moved, -, e⟩ | ⟨-, -, e⟩ | ⟨-, -, e⟩ := rxRead_cases (.pollZero d) s
  · rw [e] at h
    cases h
    exact .inr ⟨rfl, .inl rfl⟩
  · rw [e, Run.andThen_ret] at h
    exact .inl ⟨_, conclude_pollFinish h rfl rfl⟩
  · rw [e] at h
    cases h
    exact .inr ⟨rfl, .inr rfl⟩

theorem Follows.of_seq {ws wm wo : Bool} (h : Follows ws wm wo s t) : Follows ws true true s t :=
  { h with mode := nofun, session := nofun }

/-- Bytes from the device write `seq` for a waiting POLLZERO alone (R130, R141). -/
theorem arrive_seq_cases {bs : List Byte} (h : arrive bs s = .next t) :
    t.seq = s.seq ∨ ∃ d raw, s.exchange = some (.pollZero d) ∧ Polled d raw s t := by
  by_cases hpoll : ∃ d, s.exchange = some (.pollZero d)
  · obtain ⟨d, hx⟩ := hpoll
    simp only [arrive, hx] at h
    obtain ⟨raw, hp⟩ | ⟨hseq, -⟩ := pollReply_next h
    · exact .inr ⟨d, raw, hx, hp.history, hp.seq⟩
    · exact .inl hseq
  · have hflags : ∀ x, s.exchange = some x → ∀ reply u, (afterReply x reply u).All (Follows false true true u) := by
      intro x hx reply u
      have hrest := afterReply_follows x reply u
      cases x with
      | pollZero d => exact absurd ⟨d, hx⟩ hpoll
      | _ => exact hrest.imp fun _ hf => hf.of_seq
    obtain hf | ⟨u, r, hf, rfl⟩ := arrive_follows hflags h
    · exact .inl (hf.seq rfl)
    · exact .inl (hf.seq rfl)

/-! ### POLLZERO as a command -/

theorem chanByte_of_chanOf {ch : Byte} {c : Chan} (h : chanOf (ch.toNat : Int) = some c) : ch = chanByte c := by
  unfold chanOf at h
  split_ifs at h with h1 h2 h3 <;> cases h
  · exact (byte_toNat_eq_iff ch 1).1 h1
  · exact (byte_toNat_eq_iff ch 2).1 h2
  · exact (byte_toNat_eq_iff ch 3).1 h3

/-- A channel command that answers a next state found its channel, or reported that there is none (R116). -/
theorem channelCommand_next {ch : Byte} {body : Chan → State → Run Result}
    (h : runCommand s (fun s => withChannel ch s body) = .next t) :
    (∃ c, ch = chanByte c ∧ conclude (body c s) = .next t) ∨ t = report (.error .invalidChannel) s := by
  have hrun := (runCommand_next h).2
  cases hc : chanOf (ch.toNat : Int) with
  | some c =>
    rw [withChannel_of_chanOf hc] at hrun
    exact .inl ⟨c, chanByte_of_chanOf hc, hrun⟩
  | none =>
    rw [withChannel_invalid hc] at hrun
    cases hrun
    exact .inr rfl

theorem getLast?_report (r : Except ErrorKind Result) (s : State) :
    (report r s).history.getLast? = some (reportEvent r) := by
  rw [report_history, List.getLast?_concat]

/-- POLLZERO polls its channel after one frame, or writes no register and does not succeed (R126). -/
theorem exec_pollZero_next {ch : Byte} (h : exec (.pollZero ch) s = .next t) :
    (∃ d frame raw u, ch = chanByte d ∧ u.seq = s.seq ∧ u.history = s.history ++ [.tx frame] ∧ Polled d raw u t) ∨
      t.seq = s.seq ∧ ∀ r, t.history.getLast? ≠ some (.done r) := by
  obtain ⟨d, hch, h⟩ | rfl := channelCommand_next h
  · have hsent := sendShort_ends opQueryMode d s.config.queryP2 s
    rw [pollZeroBody, query, Run.andThen_assoc] at h
    cases hu : sendShort opQueryMode d s.config.queryP2 s with
    | ret u a =>
      rw [hu] at h hsent
      obtain ⟨hseq, frame, hhist⟩ := hsent
      obtain ⟨raw, hp⟩ | ⟨htseq, hthist⟩ := pollReply_next h
      · exact .inl ⟨d, frame, raw, u, hch, hseq, hhist, hp⟩
      · refine .inr ⟨htseq.trans hseq, fun r => ?_⟩
        rcases hthist with hthist | hthist <;> simp [hthist, hhist]
    | raised u e =>
      rw [hu] at h hsent
      cases h
      exact .inr ⟨hsent.1, fun r => by rw [getLast?_report]; nofun⟩
    | blocked u =>
      rw [hu] at hsent
      exact hsent.elim
  · exact .inr ⟨rfl, fun r => by rw [getLast?_report]; nofun⟩

/-! ### Steps that make a channel ready (R130) -/

theorem failAccess_seq_eq {moved : Nat} (h : failAccess moved s = .next t) : t.seq = s.seq := by
  obtain ⟨-, e⟩ | ⟨-, e⟩ := failAccess_cases moved s
  · cases e.symm.trans h
    rfl
  · cases e.symm.trans h
    rfl

theorem takeReset_seq_eq {cfg : Config} (h : takeReset cfg s = .next t) :
    t.seq = ⟨.disabled, .disabled, .disabled⟩ := by
  obtain ⟨-, e⟩ | ⟨-, e⟩ := takeReset_cases cfg s
  · cases e.symm.trans h
    rfl
  · cases e.symm.trans h

/-- An instruction makes no channel ready, or it is a poll of the channel, begun now or with its reply now. -/
theorem exec_ready_cases {i : Instr} (h : exec i s = .next t) :
    NoNewReady s t ∨ ∃ d raw u, u.seq = s.seq ∧ Polled d raw u t ∧
      (s.exchange = some (.pollZero d) ∨ i = .pollZero (chanByte d)) := by
  obtain ⟨-, -, -, -, hseq, -⟩ := writeTableOfTheRegisters s t i h
  cases i with
  | enable ch =>
    exact .inl (writeCommand_noNewReady (fun c => enableBody_ends c s) (fun _ _ => noNewReady_of_seq_set (by decide))
      (fun _ _ => noNewReady_of_seq_eq) h)
  | disable ch =>
    exact .inl (writeCommand_noNewReady (fun c => disableBody_ends c s) (fun _ _ => noNewReady_of_seq_set (by decide))
      (fun _ _ => noNewReady_of_seq_eq) h)
  | zero ch =>
    exact .inl (writeCommand_noNewReady (fun c => zeroBody_ends c s) (fun _ _ => noNewReady_of_seq_set (by decide))
      (fun _ _ hu => hu.elim noNewReady_of_seq_eq (noNewReady_of_seq_set (by decide))) h)
  | pollZero ch =>
    obtain ⟨d, frame, raw, u, rfl, hu, -, hp⟩ | ⟨htseq, -⟩ := exec_pollZero_next h
    · exact .inr ⟨d, raw, u, hu, hp, .inr rfl⟩
    · exact .inl (noNewReady_of_seq_eq htseq)
  | reply6 | reply10 =>
    obtain htseq | ⟨d, raw, hx, hp⟩ := arrive_seq_cases h
    · exact .inl (noNewReady_of_seq_eq htseq)
    · exact .inr ⟨d, raw, s, rfl, hp, .inl hx⟩
  | _ => exact .inl (noNewReady_of_seq_eq (hseq rfl))

end

/-- Settles O58: by the event the step takes; a failed access and a reset make no channel ready. -/
theorem readyOnlyByATruePoll : Obligations.ReadyOnlyByATruePoll := by
  intro s t c h hready hnot
  have hchanged : t.seq ≠ s.seq := fun hseq => hnot (hseq ▸ hready)
  obtain ⟨-, -, rfl⟩ | ⟨w, rest, i, hi, hd, h⟩ | ⟨bs, rest, hi, h⟩ | ⟨moved, rest, -, h⟩ | ⟨cfg, rest, -, h⟩ :=
    step_next h
  · exact absurd rfl hchanged
  · obtain hno | ⟨d, raw, u, hu, hp, horigin⟩ := exec_ready_cases h
    · exact absurd (hno c hready) hnot
    · obtain ⟨rfl, hlast⟩ := hp.of_new_ready hu hready hnot
      exact ⟨hlast, horigin.imp_right fun hpoll => ⟨w, rest, hi, by rw [hd, hpoll]⟩⟩
  · obtain hseq | ⟨d, raw, hx, hp⟩ := arrive_seq_cases h
    · exact absurd hseq hchanged
    · obtain ⟨rfl, hlast⟩ := hp.of_new_ready rfl hready hnot
      exact ⟨hlast, .inl hx⟩
  · exact absurd (failAccess_seq_eq h) hchanged
  · rw [takeReset_seq_eq h] at hready
    cases c <;> cases hready

end Sys2Proof.Machine
end

section
/-! SUPPORT. The channel commands one by one (spec 43_channel_commands R122 to R129; 60_exceptions R164, R167, R180):
the frames and the register of each, what POSITION refuses, the transition table of `seq`, and what is not accepted. -/

namespace Sys2Proof.Machine

open Safety Claims

/-! ### ENABLE, DISABLE, SETMODE, ZERO (R122 to R125) -/

theorem played_setSeq (es : List Event) (c : Chan) (v : Seq) (s : State) :
    played es (s.setSeq c v) = (played es s).setSeq c v := rfl

theorem setSeq_setSeq (s : State) (c : Chan) (v w : Seq) : (s.setSeq c v).setSeq c w = s.setSeq c w := by
  rw [State.setSeq, State.setSeq_seq, PerChan.set_set]
  rfl

section
variable {s : State} (hl : configLegal s.config = true) (hv : NoFailure s)
include hl hv

theorem sendShort_played {opcode : Word16} {p2 : Int} (hr : (opcode, p2) ∈ shortRows s.config) (c : Chan) :
    sendShort opcode c p2 s = .ret (played [.tx (shortOf s.config c (lo opcode) (hi opcode) p2)] s) () := by
  rw [sendShort_eq hl hr, txWrite_completes (headD_completes hv)]

theorem enableBody_completes (c : Chan) : enableBody c s =
    .ret ((played [.tx (shortOf s.config c 0x10 0x02 s.config.enCode)] s).setSeq c .enabled) () := by
  rw [enableBody, sendShort_played hl hv (by simp [shortRows])]
  rfl

theorem disableBody_completes (c : Chan) : disableBody c s =
    .ret ((played [.tx (shortOf s.config c 0x10 0x02 s.config.disCode)] s).setSeq c .disabled) () := by
  rw [disableBody, sendShort_played hl hv (by simp [shortRows])]
  rfl

theorem setModeBody_completes (c : Chan) (closed : Bool) : setModeBody c closed s =
    .ret ((played [.tx (shortOf s.config c 0x40 0x06 (modeCode s.config closed))] s).setMode c (modeOf closed)) () := by
  rw [setModeBody, sendShort_played hl hv (by cases closed <;> simp [shortRows, modeCode])]
  rfl

theorem zeroBody_completes (c : Chan) : zeroBody c s =
    .ret ((played [.tx (shortOf s.config c 0x10 0x02 s.config.enCode),
      .tx (shortOf s.config c 0x58 0x06 s.config.queryP2)] s).setSeq c .zeroRequested) () := by
  have hv1 : NoFailure ((played [.tx (shortOf s.config c 0x10 0x02 s.config.enCode)] s).setSeq c .enabled) :=
    noFailure_played hv _
  rw [zeroBody_enabled hl (.of_noFailure hv 1), txWrite_completes (headD_completes hv1), Run.andThen_ret,
    played_setSeq, setSeq_setSeq, played_played]
  rfl

end

/-- A channel command that returns no value, its pseudocode run to its end. -/
theorem writeCommand_eq {s u : State} (ha : Accepts s) {c : Chan} {body : Chan → State → Run Unit}
    (h : body c s = .ret u ()) :
    runCommand s (fun s => withChannel (chanByte c) s fun c s => (body c s).andThen noResult) =
      .next (report (.ok .nothing) u) := by
  rw [channelCommand_eq ha (chanOf_chanByte c), h]
  rfl

/-- Settles O30: one frame completes, then the register is set. -/
theorem enableDisableSetMode : Obligations.EnableDisableSetMode := fun _ c ha hl hv =>
  ⟨writeCommand_eq ha (enableBody_completes hl hv c), writeCommand_eq ha (disableBody_completes hl hv c),
    writeCommand_eq ha (setModeBody_completes hl hv c true), writeCommand_eq ha (setModeBody_completes hl hv c false)⟩

/-- Settles O31: both frames complete, and the second register write takes the place of the first. -/
theorem zeroEnablesThenZeroes : Obligations.ZeroEnablesThenZeroes := fun _ c ha hl hv =>
  writeCommand_eq ha (zeroBody_completes hl hv c)

/-! ### POLLZERO (R126) -/

/-- Settles O32: the request and its reply, then the two outcomes of the status byte. -/
theorem pollZeroReadsTheStatus : Obligations.PollZeroReadsTheStatus := by
  intro s c ha hl hv hb hlen t
  have hquery : query opQueryMode c (.pollZero c) s = .ret t (s.rxStream.take 6) :=
    query_completes hl (by simp [shortRows]) c (.of_noFailure hv 2) ha.1 hb hlen
  have hstatus : statusByte (s.rxStream.take 6) = s.rxStream.getD 3 0 := getD_take (by decide)
  rw [exec, execPollZero, channelCommand_eq ha (chanOf_chanByte c), pollZeroBody, hquery, Run.andThen_ret]
  split
  case isTrue h2 =>
    rw [pollFinish_ready (hstatus.trans h2)]
    rfl
  case isFalse h2 =>
    rw [pollFinish_notReady (hstatus.trans_ne h2)]
    rfl

/-! ### POSITION refused (R127, R164, R167) -/

theorem exec_position_notReady {s : State} (ha : Accepts s) {c : Chan} (hseq : s.seq.get c ≠ .closedLoopReady)
    (pos : Int) : exec (.position (chanByte c) pos) s = .next (report (.error .preconditionNotMet) s) := by
  rw [exec, execPosition, channelCommand_eq ha (chanOf_chanByte c), positionBody, if_pos hseq]
  rfl

theorem exec_position_outOfRange {s : State} (ha : Accepts s) {c : Chan} (hseq : s.seq.get c = .closedLoopReady)
    {pos : Int} (hpos : pos < 0 ∨ pos > s.cfgMaxPos) :
    exec (.position (chanByte c) pos) s = .next (report (.error .outOfRange) s) := by
  rw [exec, execPosition, channelCommand_eq ha (chanOf_chanByte c), positionBody, if_neg (not_not.2 hseq), if_pos hpos]
  rfl

/-- Settles O37: the state is looked at before the position. -/
theorem positionIsRefusedWithAnError : Obligations.PositionIsRefusedWithAnError := fun _ _ pos ha =>
  ⟨fun hseq => exec_position_notReady ha hseq pos, fun hseq hpos => exec_position_outOfRange ha hseq hpos⟩

/-! ### The transition table of `seq` (R129) -/

/-- A command that returns no value, never waits and succeeded has set the register of its channel, where its
pseudocode does. -/
theorem writeCommand_done_seq {s t : State} {c : Chan} {r : Result} {v : Seq} {Q : State → Prop}
    {body : Chan → State → Run Unit} (hbody : (body c s).Ends (fun u => u.seq = s.seq.set c v) Q)
    (hdone : t.history.getLast? = some (.done r))
    (h : runCommand s (fun s => withChannel (chanByte c) s fun c s => (body c s).andThen noResult) = .next t) :
    t.seq.get c = v := by
  have hrun := (runCommand_next h).2
  rw [withChannel_chanByte] at hrun
  obtain ⟨u, hu, rfl⟩ | ⟨u, e, -, rfl⟩ := conclude_noResult_next hbody hrun
  · rw [report_seq, hu, PerChan.get_set_same]
  · rw [getLast?_report] at hdone
    cases hdone

theorem chanByte_injective {c d : Chan} (h : chanByte c = chanByte d) : c = d := by
  have hc := chanOf_chanByte c
  rw [h, chanOf_chanByte] at hc
  exact (Option.some.inj hc).symm

/-- A POLLZERO that succeeded has polled its channel (R126). -/
theorem exec_pollZero_done {s t : State} {c : Chan} {r : Result} (hdone : t.history.getLast? = some (.done r))
    (h : exec (.pollZero (chanByte c)) s = .next t) :
    ∃ frame raw, t.history = s.history ++ [.tx frame, .rx 6 raw, .done r] ∧
      t.seq.get c = if raw.getD 3 0 = 0x02 then .closedLoopReady else s.seq.get c := by
  obtain ⟨d, frame, raw, u, hd, hseq, hhist, hp⟩ | ⟨-, hnot⟩ := exec_pollZero_next h
  · obtain rfl := chanByte_injective hd
    rw [hp.history, List.getLast?_append] at hdone
    cases hdone
    refine ⟨frame, raw, ?_, ?_⟩
    · rw [hp.history, hhist, List.append_assoc]
      rfl
    · rw [hp.seq, hseq]
      split
      · exact PerChan.get_set_same _ _ _
      · rfl
  · exact absurd hdone (hnot r)

/-- A POSITION that succeeded found its channel ready (R127). -/
theorem exec_position_done {s t : State} {c : Chan} {r : Result} {pos : Int}
    (hdone : t.history.getLast? = some (.done r)) (h : exec (.position (chanByte c) pos) s = .next t) :
    s.seq.get c = .closedLoopReady := by
  have ⟨ha, _⟩ := runCommand_next (body := fun s => withChannel (chanByte c) s (positionBody pos)) h
  by_contra hseq
  cases (exec_position_notReady ha hseq pos).symm.trans h
  rw [getLast?_report] at hdone
  cases hdone

theorem exec_seq_eq {s t : State} {i : Instr} (hi : writesSeq s i = false) (h : exec i s = .next t) :
    t.seq = s.seq := by
  obtain ⟨-, -, -, -, hseq, -⟩ := writeTableOfTheRegisters s t i h
  exact hseq hi

/-- Settles O51: row by row; the commands that are not in the table write no `seq` (R31). -/
theorem sequencerTransitions : Obligations.SequencerTransitions := by
  intro s t c r hdone
  refine ⟨fun h => writeCommand_done_seq (enableBody_ends c s) hdone h,
    fun h => writeCommand_done_seq (disableBody_ends c s) hdone h, fun closed h => exec_seq_eq rfl h,
    fun h => writeCommand_done_seq (zeroBody_ends c s) hdone h, exec_pollZero_done hdone, fun pos h => ?_,
    fun i hi h => exec_seq_eq ?_ h⟩
  · have hready := exec_position_done hdone h
    exact ⟨hready, by rw [exec_seq_eq rfl h, hready]⟩
  · obtain rfl | rfl | rfl | rfl | rfl | rfl | ⟨v, rfl⟩ | ⟨g, n, m, rfl⟩ := hi <;> rfl

/-! ### What is not accepted (R180, R192) -/

theorem accept_busy {s : State} (h : s.exchange ≠ none) (go : State → Out) : accept s go = .refused .busy :=
  if_pos (Option.isSome_iff_ne_none.2 h)

theorem accept_closed {s : State} (hx : s.exchange = none) (ho : s.sessionOpen = false) (go : State → Out) :
    accept s go = .refused .sessionClosed := by
  rw [accept, hx, ho]
  rfl

theorem runCommand_eq_accept (s : State) (body : State → Run Result) : ∃ go, runCommand s body = accept s go :=
  ⟨_, rfl⟩

theorem channelCommand_eq_accept {i : Instr} {ch : Byte} (h : channelOperand i = some ch) (s : State) :
    ∃ go, exec i s = accept s go := by
  obtain ⟨body, e⟩ := exec_of_channelOperand h
  rw [e]
  exact runCommand_eq_accept s _

theorem answerUnit_eq_accept (s : State) (r : Except ErrorKind Result) : ∃ go, answerUnit s r = accept s go :=
  ⟨_, rfl⟩

/-- Acceptance comes first for all that the command port carries, DECODE of fewer than six bytes aside (R120, U1). -/
theorem exec_eq_accept {i : Instr} (hport : onCommandPort i = true) (hwf : i.wellFormed = true) (s : State) :
    ∃ go, exec i s = accept s go := by
  cases i with
  | frameIdentify | frameEnable | frameDisable | frameReqEnable | frameSetMode | frameReqMode | frameReqVolt
  | frameReqPos | frameZero | frameSetVolt | frameSetPos | reply6 | reply10 => cases hport
  | reserved0E | reserved0F | reserved1C | reserved1D | reserved1E | reserved1F => cases hport
  | decodeRaw raw =>
    have hlen : 6 ≤ raw.length := of_decide_eq_true hwf
    rw [exec, execDecodeRaw]
    cases hd : decodeHeader raw with
    | some hdr => exact answerUnit_eq_accept s _
    | none => exact absurd (decodeHeader_eq_none_iff.1 hd) (by omega)
  | enable | disable | setMode | zero | pollZero | position | getPosition | setVolt | getVolt | rampVolt | getMode
  | getEnable => exact channelCommand_eq_accept rfl s
  | identify => exact runCommand_eq_accept s _
  | shutdown => exact runCommand_eq_accept s fun s => (shutdownFrom [.ch1, .ch2, .ch3] s).andThen noResult
  | encodeShort | encodeLong | pos2Scaled | scaled2Pos | volt2Scaled | scaled2Volt | bayAddr | int2b1 | int2b2 | b2u16
  | b2i16 => exact answerUnit_eq_accept s _

/-- Settles O46: acceptance comes first and looks at the exchange and the session alone. -/
theorem nothingStartsWhenBusyOrClosed : Obligations.NothingStartsWhenBusyOrClosed := by
  intro s i hport hwf
  obtain ⟨go, e⟩ := exec_eq_accept hport hwf s
  rw [e]
  exact ⟨fun hx => accept_busy hx go, fun hx ho => accept_closed hx ho go⟩

end Sys2Proof.Machine
end

section
/-! SUPPORT. SHUTDOWN with its replies there (spec 45_composite_commands R150, R152; 60_exceptions R165, R200): the
channels it ramps down, a negative reading, and the release of the transport. -/

namespace Sys2Proof.Machine

open Safety Claims

/-! ### A negative reading (R150, R200) -/

theorem setPointNum_zero_neg {raw : Int} {max n : Nat} (hraw : raw < 0) (hmax : 0 < max) (hn : 0 < n) (target : Int) :
    setPointNum raw target max n 0 < 0 := by
  have hmax' : (0 : Int) < max := by omega
  have hn' : (0 : Int) < n := by omega
  have hprod : raw * max * n < 0 := mul_neg_of_neg_of_pos (mul_neg_of_neg_of_pos hraw hmax') hn'
  simpa [setPointNum] using hprod

/-- A ramp from a negative reading ends at its first set-point, nothing written (R150, R200). -/
theorem rampSetPoints_negative {s : State} {raw : Int} {n : Nat} (hraw : raw < 0) (hmax : s.cfgMaxVolt ≠ 0) (hn : n ≠ 0)
    (target : Int) (delayMs : Word32) (c : Chan) :
    rampSetPoints raw target n delayMs c n s = .raised s .outOfRange := by
  obtain ⟨k, rfl⟩ := Nat.exists_eq_succ_of_ne_zero hn
  have hneg := setPointNum_zero_neg hraw (Nat.pos_of_ne_zero hmax) k.succ_pos target
  rw [rampSetPoints, Nat.sub_self, setVoltBody, if_pos (.inl hneg), Run.andThen_raised]

/-- SHUTDOWN stops at a channel whose reading is negative (R200). -/
theorem shutdownFrom_stops {s : State} (h : Fresh s) (hv : Completes 3 s) (hlen : 10 ≤ s.rxStream.length)
    (hreading : readingOf s.rxStream < 0) (c : Chan) (cs : List Chan) :
    shutdownFrom (c :: cs) s =
      .raised ((played (shutStop s c (s.rxStream.take 10)) s).withModes (s.mode.set c .openLoop)) .outOfRange := by
  have hquery : query opQueryVoltage c (.shutdown c) (openedLoop c s) =
      .ret (played [.tx (voltRequest s c), .rx 10 (s.rxStream.take 10)] (openedLoop c s)) (s.rxStream.take 10) :=
    voltQuery_completes (h.after _ _) rfl (hv.openedLoop le_rfl c) c hlen
  rw [shutdownFrom_opens h.legal (hv.mono (by decide)), hquery, Run.andThen_ret, rampFinish_take,
    rampSetPoints_negative (s := played _ (openedLoop c s)) hreading h.maxVolt (shutSteps_ne_zero h.legal),
    Run.andThen_raised, played_openedLoop]
  rfl

/-! ### The channels ramped down (R152) -/

theorem accesses_rampEvents (frame : Nat → List Byte) (delayMs : Word32) (n k : Nat) :
    accesses (rampEvents frame delayMs n k) = k + 1 := by
  induction k with
  | zero => rfl
  | succ k ih => exact congrArg (· + 1) ih

/-- A channel's part of SHUTDOWN is the mode, the query, its reply and `SHUT_STEPS + 1` set-points. -/
theorem accesses_shutHistory (s : State) (c : Chan) (reply : List Byte) :
    accesses (shutHistory s c reply) = s.config.shutSteps.toNat + 4 := by
  simp [shutHistory, rampHistory, accesses, accesses_rampEvents]

theorem Completes.rampedDown {s : State} {k m : Nat} (hv : Completes k s) (c : Chan)
    (hk : s.config.shutSteps.toNat + 4 + m ≤ k) : Completes m (Machine.rampedDown c s) :=
  hv.after_played (es := shutHistory s c (s.rxStream.take 10)) (by rwa [accesses_shutHistory])

/-- The block once SHUTDOWN is done with channels 1 and 2. -/
def rampedTwo (s : State) : State := rampedDown .ch2 (rampedDown .ch1 s)

/-- The block once SHUTDOWN is done with all three channels. -/
def rampedAll (s : State) : State := rampedDown .ch3 (rampedTwo s)

section
variable {s : State}

theorem rxStream_rampedTwo (hlen : 20 ≤ s.rxStream.length) : (rampedTwo s).rxStream = s.rxStream.drop 20 := by
  have hrest := rxStream_rampedDown .ch1 (by omega : 10 ≤ s.rxStream.length)
  rw [rampedTwo, rxStream_rampedDown .ch2 (by rw [hrest, List.length_drop]; omega), hrest, List.drop_drop]

theorem Fresh.rampedTwo (h : Fresh s) : Fresh (Machine.rampedTwo s) := (h.rampedDown _).rampedDown _

theorem noFailure_rampedTwo (hv : NoFailure s) : NoFailure (rampedTwo s) :=
  noFailure_rampedDown (noFailure_rampedDown hv _) _

theorem verdicts_rampedDown (c : Chan) (s : State) :
    (rampedDown c s).verdicts = s.verdicts.drop (s.config.shutSteps.toNat + 4) := by
  rw [← accesses_shutHistory s c (s.rxStream.take 10)]
  rfl

theorem verdicts_rampedAll (s : State) :
    (rampedAll s).verdicts = s.verdicts.drop (3 * (s.config.shutSteps.toNat + 4)) := by
  have hconfig (c : Chan) (u : State) : (rampedDown c u).config = u.config := rfl
  rw [rampedAll, rampedTwo, verdicts_rampedDown, verdicts_rampedDown, verdicts_rampedDown, hconfig, hconfig,
    List.drop_drop, List.drop_drop]
  congr 1
  omega

theorem played_rampedTwo (es : List Event) (hlen : 20 ≤ s.rxStream.length) :
    played es (rampedTwo s) =
      (played (shutHistory s .ch1 (s.rxStream.take 10) ++ shutHistory s .ch2 ((s.rxStream.drop 10).take 10) ++ es)
        s).withModes ((s.mode.set .ch1 .openLoop).set .ch2 .openLoop) := by
  rw [rampedTwo, played_rampedDown, played_rampedDown, rxStream_rampedDown .ch1 (by omega), List.append_assoc]
  rfl

theorem played_rampedAll (es : List Event) (hlen : 20 ≤ s.rxStream.length) :
    played es (rampedAll s) =
      (played (shutHistory s .ch1 (s.rxStream.take 10) ++ shutHistory s .ch2 ((s.rxStream.drop 10).take 10) ++
        shutHistory s .ch3 ((s.rxStream.drop 20).take 10) ++ es) s).withModes ⟨.openLoop, .openLoop, .openLoop⟩ := by
  rw [rampedAll, played_rampedDown, played_rampedTwo _ hlen, rxStream_rampedTwo hlen, List.append_assoc _ _ es]
  rfl

variable (h : Fresh s) (hr1 : 0 ≤ readingOf (s.rxStream.take 10)) (hr2 : 0 ≤ readingOf ((s.rxStream.drop 10).take 10))
include h hr1

theorem shutdownFrom_rampsOne (hv : Completes (s.config.shutSteps.toNat + 4) s) (hlen : 10 ≤ s.rxStream.length) :
    shutdownFrom [.ch1, .ch2, .ch3] s = shutdownFrom [.ch2, .ch3] (rampedDown .ch1 s) :=
  shutdownFrom_ramps h hv hlen (by rwa [readingOf_take] at hr1) _ _

include hr2

theorem shutdownFrom_rampsTwo (hv : Completes (2 * (s.config.shutSteps.toNat + 4)) s) (hlen : 20 ≤ s.rxStream.length) :
    shutdownFrom [.ch1, .ch2, .ch3] s = shutdownFrom [.ch3] (rampedTwo s) := by
  have hrest := rxStream_rampedDown .ch1 (by omega : 10 ≤ s.rxStream.length)
  rw [readingOf_take] at hr2
  rw [shutdownFrom_rampsOne h hr1 (hv.mono (by omega)) (by omega)]
  refine shutdownFrom_ramps (h.rampedDown _) (hv.rampedDown _ ?_) ?_ ?_ _ _
  · rw [two_mul]
    exact le_rfl
  · rw [hrest, List.length_drop]
    omega
  · rwa [hrest]

theorem shutdownFrom_rampsAll (hv : Completes (3 * (s.config.shutSteps.toNat + 4)) s) (hlen : 30 ≤ s.rxStream.length)
    (hr3 : 0 ≤ readingOf ((s.rxStream.drop 20).take 10)) :
    shutdownFrom [.ch1, .ch2, .ch3] s = shutdownFrom [] (rampedAll s) := by
  have hrest := rxStream_rampedTwo (by omega : 20 ≤ s.rxStream.length)
  have hv2 : Completes (2 * (s.config.shutSteps.toNat + 4)) (rampedDown .ch1 s) := hv.rampedDown _ (by omega)
  rw [readingOf_take] at hr3
  rw [shutdownFrom_rampsTwo h hr1 hr2 (hv.mono (by omega)) (by omega)]
  refine shutdownFrom_ramps h.rampedTwo (hv2.rampedDown _ ?_) ?_ ?_ _ _
  · rw [two_mul]
    exact le_rfl
  · rw [hrest, List.length_drop]
    omega
  · rwa [hrest]

end

/-! ### The release of the transport (R152) -/

theorem shutdownFrom_closes {s : State} (hv : s.verdicts.headD .completes = .completes) :
    shutdownFrom [] s = .ret ((played [.close] s).setSession false) () := by
  obtain ⟨-, e⟩ | ⟨moved, hfail, -⟩ := closeTransport_cases s
  · rw [shutdownFrom, e, Run.andThen_ret]
    simp [played, txFrames, rxBytes, accesses, State.log, State.popVerdict]
  · cases hv.symm.trans hfail

theorem shutdownFrom_close_fails {s : State} {moved : Nat} {vs : List Verdict} (hv : s.verdicts = .fails moved :: vs) :
    shutdownFrom [] s = .raised { s with verdicts := vs } .transportFailure := by
  simp only [shutdownFrom, closeTransport, hv, List.headD_cons, Run.andThen_raised, State.popVerdict, List.tail_cons]

/-- Settles O41: by how far SHUTDOWN comes. -/
theorem shutdownRampsAndCloses : Obligations.ShutdownRampsAndCloses := by
  intro s ha hl hb b1 b2 b3 all
  have hs : Fresh s := .of_accepts ha hl hb
  refine ⟨fun hv hlen hr1 hr2 hr3 => ?closes, fun hv hlen hr1 => ?negativeFirst, fun hv hlen hr1 hr2 => ?negativeSecond,
    fun hv hlen hr1 hr2 hr3 => ?negativeThird, fun moved vs hv hlen hr1 hr2 hr3 => ?closeFails⟩
  case closes =>
    have hclose : NoFailure (rampedAll s) := noFailure_rampedDown (noFailure_rampedTwo hv) _
    rw [exec_shutdown_eq ha, shutdownFrom_rampsAll hs hr1 hr2 (.of_noFailure hv _) hlen hr3,
      shutdownFrom_closes (headD_completes hclose), played_rampedAll _ (by omega)]
    rfl
  case negativeFirst =>
    rw [exec_shutdown_eq ha, shutdownFrom_stops hs (.of_noFailure hv 3) hlen (by rwa [readingOf_take] at hr1)]
    rfl
  case negativeSecond =>
    have hrest := rxStream_rampedDown .ch1 (by omega : 10 ≤ s.rxStream.length)
    rw [exec_shutdown_eq ha, shutdownFrom_rampsOne hs hr1 (.of_noFailure hv _) (by omega),
      shutdownFrom_stops (hs.rampedDown _) (.of_noFailure (noFailure_rampedDown hv _) 3)
        (by rw [hrest, List.length_drop]; omega) (by rwa [hrest, ← readingOf_take]), hrest, played_rampedDown]
    rfl
  case negativeThird =>
    have hrest := rxStream_rampedTwo (by omega : 20 ≤ s.rxStream.length)
    rw [exec_shutdown_eq ha, shutdownFrom_rampsTwo hs hr1 hr2 (.of_noFailure hv _) (by omega),
      shutdownFrom_stops hs.rampedTwo (.of_noFailure (noFailure_rampedTwo hv) 3)
        (by rw [hrest, List.length_drop]; omega) (by rwa [hrest, ← readingOf_take]), hrest,
      played_rampedTwo _ (by omega)]
    rfl
  case closeFails =>
    have hclose : (rampedAll s).verdicts = .fails moved :: vs := by
      rw [verdicts_rampedAll, hv]
      exact List.drop_left' List.length_replicate
    rw [exec_shutdown_eq ha, shutdownFrom_rampsAll hs hr1 hr2 (.of_replicate hv) hlen hr3,
      shutdownFrom_close_fails hclose, ← played_nil (rampedAll s), played_rampedAll _ (by omega), List.append_nil]
    rfl

end Sys2Proof.Machine
end

section
/-! SUPPORT. GETMODE, GETENABLE and GETPOSITION with their replies there (spec 44_channel_queries R140 to R143). -/

namespace Sys2Proof.Machine

open Safety Claims

/-- A query command whose reply is there: the request, the reply, and what the command makes of it (R140). -/
theorem queryCommand_completes {s : State} (ha : Accepts s) (hl : configLegal s.config = true) (hv : NoFailure s)
    (hb : s.rxBuf = []) {opcode : Word16} (hr : (opcode, s.config.queryP2) ∈ shortRows s.config) {c : Chan}
    (x : Chan → Exchange) (f : Chan → State → List Byte → Run Result) (hlen : replyLen (x c) ≤ s.rxStream.length) :
    runCommand s (fun s => withChannel (chanByte c) s fun c s => (query opcode c (x c) s).andThen (f c)) =
      conclude (f c (played [.tx (shortOf s.config c (lo opcode) (hi opcode) s.config.queryP2),
        .rx (replyLen (x c)) (s.rxStream.take (replyLen (x c)))] s) (s.rxStream.take (replyLen (x c)))) := by
  rw [channelCommand_eq ha (chanOf_chanByte c), query_completes hl hr c (.of_noFailure hv 2) ha.1 hb hlen,
    Run.andThen_ret]

/-- The status byte lies within the six bytes that are read (R58). -/
theorem conclude_statusFinish_take (l : List Byte) (t : State) :
    conclude (statusFinish (l.take 6) t) = .next (report (.ok (.byte (l.getD 3 0))) t) := by
  rw [statusFinish, statusByte, getD_take (by decide)]
  rfl

/-- Both value bytes lie within the ten bytes that are read (R59); the Unit Scaler floors their unsigned value (R104). -/
theorem conclude_positionFinish_take (l : List Byte) (t : State) :
    conclude (positionFinish (l.take 10) t) = .next (report (.ok (.int
      ⌊((l.getD 8 0).toNat + 256 * (l.getD 9 0).toNat : ℚ) * t.cfgMaxPos / 32767⌋)) t) := by
  rw [positionFinish, valueLo, valueHi, getD_take (by decide), getD_take (by decide), scaledToPos_eq_floor, b2u16]
  push_cast
  rfl

/-- Settles O33: either query reads six bytes and reports the status byte among them. -/
theorem statusQueriesReturnTheByte : Obligations.StatusQueriesReturnTheByte := by
  intro s c ha hl hv hb hlen
  constructor
  · exact (queryCommand_completes ha hl hv hb (by simp [shortRows]) .getMode _ hlen).trans
      (conclude_statusFinish_take s.rxStream _)
  · exact (queryCommand_completes ha hl hv hb (by simp [shortRows]) .getEnable _ hlen).trans
      (conclude_statusFinish_take s.rxStream _)

/-- Settles O34: the query reads ten bytes and reports the scaled value of the two at the end. -/
theorem getPositionReturnsNanometres : Obligations.GetPositionReturnsNanometres := by
  intro s c ha hl hv hb hlen
  exact (queryCommand_completes ha hl hv hb (by simp [shortRows]) .getPosition _ hlen).trans
    (conclude_positionFinish_take s.rxStream _)

end Sys2Proof.Machine
end

section
/-! SUPPORT. RAMPVOLT as a command (spec 45_composite_commands R150, R151; 60_exceptions R167, R200): the closed form of
its set-points, the whole ramp, and what ends it before its first set-point. -/

namespace Sys2Proof.Machine

open Safety Claims

/-! ### The set-points as numbers (R150, R151) -/

/-- An exact quotient is not rounded. -/
theorem roundQ_mul_self (tie : TieRule) (z : Int) {d : Nat} (hd : 0 < d) : roundQ tie (z * d) d = z := by
  have hd' : (0 : Int) < d := by omega
  rw [roundQ_of_lt (by rwa [Int.mul_emod_left]), Int.mul_ediv_cancel _ hd'.ne']

/-- Full scale cancels against the denominator of a set-point: its scaled value in the closed form of R151. -/
theorem roundQ_setPoint (tie : TieRule) (num : Int) (max n : Nat) :
    roundQ tie (num * 32767) (32767 * n * max) = roundQ tie num (max * n) := by
  rw [mul_comm num, mul_assoc, mul_comm n]
  exact roundQ_mul_left tie (by decide) num (max * n)

theorem setPointNum_first (r target : Int) (max n : Nat) : setPointNum r target max n 0 = r * (max * n : Nat) := by
  simp [setPointNum, mul_assoc]

theorem setPointNum_last (r target : Int) (max n : Nat) : setPointNum r target max n n = n * (32767 * target) := by
  simp [setPointNum, mul_comm]

/-- A set-point lies in range where its numerator does (R128, R151). -/
theorem setPoint_inRange_iff (num : Int) (max : Nat) {n : Nat} (hn : 0 < n) :
    (0 ≤ (num : ℚ) / (32767 * n : Nat) ∧ (num : ℚ) / (32767 * n : Nat) ≤ max) ↔ 0 ≤ num ∧ num ≤ 32767 * max * n := by
  have hden : (0 : ℚ) < (32767 * n : Nat) := by exact_mod_cast Nat.mul_pos (by decide) hn
  have hscale : (max : ℚ) * (32767 * n : Nat) = (32767 * max * n : Int) := by
    push_cast
    ring
  rw [le_div_iff₀ hden, zero_mul, div_le_iff₀ hden, hscale, Int.cast_nonneg_iff, Int.cast_le]

/-- Settles O27: the interpolation over one denominator, full scale cancelled against it, and the two ends. -/
theorem rampSetPointClosedForm : Obligations.RampSetPointClosedForm := by
  intro tie r target max n i hmax hn _
  have hmax' : (max : ℚ) ≠ 0 := by exact_mod_cast hmax.ne'
  have hn' : (n : ℚ) ≠ 0 := by exact_mod_cast hn.ne'
  refine ⟨?interpolation, ?closedForm, roundQ_setPoint tie _ max n, fun _ _ => ?first, ?last,
    setPoint_inRange_iff _ max hn⟩
  case interpolation =>
    rw [setPointNum]
    push_cast
    field_simp
    ring
  case closedForm =>
    rw [setPointNum]
    push_cast
    field_simp
  case first => rw [roundQ_setPoint, setPointNum_first, roundQ_mul_self tie r (Nat.mul_pos hmax hn)]
  case last => rw [roundQ_setPoint, setPointNum_last, mul_comm max, roundQ_mul_left tie hn]

/-! ### The command (R150) -/

/-- `steps = 0` or a target out of range ends a ramp before any byte (R150, R167). -/
theorem exec_rampVolt_rejects {s : State} (ha : Accepts s) {target : Int} {steps : Word16}
    (h : steps = 0 ∨ target < 0 ∨ target > s.cfgMaxVolt) (c : Chan) (delayMs : Word32) :
    exec (.rampVolt (chanByte c) target steps delayMs) s = .next (report (.error .outOfRange) s) := by
  have hcheck : rampCheck target steps.toNat s = .error .outOfRange := by
    rw [rampCheck]
    rcases h with rfl | h
    · exact if_pos rfl
    · rw [if_pos h, ite_self]
  rw [exec, execRampVolt, channelCommand_eq ha (chanOf_chanByte c), rampBody, hcheck]
  rfl

/-- A ramp that passes its checks and finds its reading in the stream goes on with the set-points (R150). -/
theorem exec_rampVolt_reads {s : State} (ha : Accepts s) (hl : configLegal s.config = true) (hv : NoFailure s)
    (hb : s.rxBuf = []) (hlen : 10 ≤ s.rxStream.length) {target : Int} {steps : Word16} (hsteps : steps.toNat ≠ 0)
    (h0 : 0 ≤ target) (h1 : target ≤ s.cfgMaxVolt) (c : Chan) (delayMs : Word32) :
    exec (.rampVolt (chanByte c) target steps delayMs) s =
      conclude ((rampSetPoints (readingOf s.rxStream) target steps.toNat delayMs c steps.toNat
        (played [.tx (voltRequest s c), .rx 10 (s.rxStream.take 10)] s)).andThen noResult) := by
  rw [exec, execRampVolt, channelCommand_eq ha (chanOf_chanByte c), rampBody_eq (rampCheck_of_legal hsteps h0 h1),
    voltQuery_completes (.of_accepts ha hl hb) rfl (.of_noFailure hv 2) c hlen, Run.andThen_ret, rampFinish_take]

/-- Settles O39: after the reading every set-point's write completes. -/
theorem rampWritesEverySetPoint : Obligations.RampWritesEverySetPoint := by
  intro s c target steps delayMs ha hl hv hb hlen hsteps h0 h1 hreading
  have ⟨_, _, _, hmax⟩ := ha
  have hn : steps.toNat ≠ 0 := BitVec.toNat_ne.1 hsteps
  have hrange : RampInRange (played [.tx (voltRequest s c), .rx 10 (s.rxStream.take 10)] s) (readingOf s.rxStream)
      target steps.toNat :=
    ⟨hl, hmax, Nat.pos_of_ne_zero hn, hreading, readingOf_le _, h0, h1⟩
  rw [exec_rampVolt_reads ha hl hv hb hlen hn h0 h1,
    rampSetPoints_completes hrange delayMs c (.of_noFailure (noFailure_played hv _) _), played_played, rampHistory,
    readingOf_take]
  rfl

/-- Settles O40: the checks come first, and the first set-point of a negative reading is out of range. -/
theorem rampRejectsBeforeSetPoints : Obligations.RampRejectsBeforeSetPoints := by
  intro s c target steps delayMs ha
  have ⟨_, _, _, hmax⟩ := ha
  refine ⟨fun h => exec_rampVolt_rejects ha h c delayMs, fun hl hv hb hlen hsteps h0 h1 hreading => ?_⟩
  have hn : steps.toNat ≠ 0 := BitVec.toNat_ne.1 hsteps
  rw [exec_rampVolt_reads ha hl hv hb hlen hn h0 h1, rampSetPoints_negative (s := played _ s) hreading hmax hn]
  rfl

end Sys2Proof.Machine
end

section
/-! SUPPORT. One report per command (spec 45_composite_commands R153; 70_reset_and_hazards R205, R206): the pseudocode
of a command reports nothing itself and leaves a read in flight just where it waits; the report follows it. -/

namespace Sys2Proof.Machine

open Safety

theorem reports_reportEvent (r : Except ErrorKind Result) : reports [reportEvent r] = 1 := by
  cases r <;> rfl

/-- Nothing is in flight and the history holds `n` reports. -/
def IdleWith (n : Nat) (s : State) : Prop := s.exchange = none ∧ reports s.history = n

/-- The pseudocode ends with `n` reports in the history and, unless it waits in a read, idle. No `Simulation` says this:
its end relation is one for raised errors, waiting reads and reported states. -/
def Run.Unreported {α : Type} (n : Nat) : Run α → Prop
  | .ret t _ => IdleWith n t
  | .raised t _ => IdleWith n t
  | .blocked t => t.exchange ≠ none ∧ reports t.history = n

section
variable {n : Nat} {s : State}

theorem Run.Unreported.andThen {α β : Type} {r : Run α} {f : State → α → Run β} (hr : r.Unreported n)
    (hf : ∀ t a, IdleWith n t → (f t a).Unreported n) : (r.andThen f).Unreported n := by
  cases r with
  | ret t a => exact hf t a hr
  | raised t e => exact hr
  | blocked t => exact hr

/-- An event that is no report. -/
theorem IdleWith.log (h : IdleWith n s) {e : Event} (he : reports [e] = 0) : IdleWith n (s.log e) :=
  ⟨h.1, by rw [State.log_history, reports_append, he, h.2]; rfl⟩

theorem liftExcept_unreported {α : Type} (h : IdleWith n s) (e : Except ErrorKind α) :
    (liftExcept s e).Unreported n := by
  cases e <;> exact h

theorem noResult_unreported (h : IdleWith n s) (u : Unit) : (noResult s u).Unreported n := h

/-! ### The transport primitives -/

theorem txWrite_unreported (h : IdleWith n s) (frame : List Byte) : (txWrite frame s).Unreported n := by
  obtain ⟨-, e⟩ | ⟨moved, -, e⟩ := txWrite_cases frame s
  · rw [e]
    exact IdleWith.log (s := s.popVerdict.emit frame) h rfl
  · rw [e]
    exact h

theorem rxRead_unreported (h : IdleWith n s) (x : Exchange) : (rxRead x s).Unreported n := by
  obtain ⟨moved, -, e⟩ | ⟨-, -, e⟩ | ⟨-, -, e⟩ := rxRead_cases x s
  · rw [e]
    exact ⟨rfl, h.2⟩
  · rw [e]
    exact IdleWith.log (s := s.popVerdict.setRx none [] _) ⟨rfl, h.2⟩ rfl
  · rw [e]
    exact ⟨nofun, h.2⟩

theorem closeTransport_unreported (h : IdleWith n s) : (closeTransport s).Unreported n := by
  obtain ⟨-, e⟩ | ⟨moved, -, e⟩ := closeTransport_cases s
  · rw [e]
    exact IdleWith.log (s := s.popVerdict) h rfl
  · rw [e]
    exact h

/-! ### The pseudocode of the commands -/

theorem sendShort_unreported (h : IdleWith n s) (opcode : Word16) (c : Chan) (p2 : Int) :
    (sendShort opcode c p2 s).Unreported n :=
  (liftExcept_unreported h _).andThen fun _ frame ht => txWrite_unreported ht frame

theorem sendLong_unreported (h : IdleWith n s) (opcode : Word16) (c : Chan) (scaled : Int) :
    (sendLong opcode c scaled s).Unreported n :=
  (liftExcept_unreported h _).andThen fun _ frame ht => txWrite_unreported ht frame

theorem query_unreported (h : IdleWith n s) (opcode : Word16) (c : Chan) (x : Exchange) :
    (query opcode c x s).Unreported n :=
  (sendShort_unreported h opcode c _).andThen fun _ _ ht => rxRead_unreported ht x

/-- A channel's short frame and a register write after it (R122 to R125). -/
theorem sendShort_set_unreported (h : IdleWith n s) (opcode : Word16) (c : Chan) (p2 : Int) {write : State → State}
    (hwrite : ∀ t, IdleWith n t → IdleWith n (write t)) :
    ((sendShort opcode c p2 s).andThen fun t _ => .ret (write t) ()).Unreported n :=
  (sendShort_unreported h opcode c p2).andThen fun t _ ht => hwrite t ht

theorem identifyBody_unreported (h : IdleWith n s) : (identifyBody s).Unreported n :=
  (txWrite_unreported h _).andThen fun _ u ht => noResult_unreported ht u

theorem enableBody_unreported (h : IdleWith n s) (c : Chan) : (enableBody c s).Unreported n :=
  sendShort_set_unreported h _ c _ fun _ ht => ht

theorem disableBody_unreported (h : IdleWith n s) (c : Chan) : (disableBody c s).Unreported n :=
  sendShort_set_unreported h _ c _ fun _ ht => ht

theorem setModeBody_unreported (h : IdleWith n s) (c : Chan) (closed : Bool) : (setModeBody c closed s).Unreported n :=
  sendShort_set_unreported h _ c _ fun _ ht => ht

theorem zeroBody_unreported (h : IdleWith n s) (c : Chan) : (zeroBody c s).Unreported n :=
  (enableBody_unreported h c).andThen fun _ _ ht => sendShort_set_unreported ht _ c _ fun _ hu => hu

theorem pollFinish_unreported (h : IdleWith n s) (c : Chan) (raw : List Byte) : (pollFinish c raw s).Unreported n := by
  unfold pollFinish
  split
  · exact h
  · exact h

theorem positionBody_unreported (h : IdleWith n s) (pos : Int) (c : Chan) : (positionBody pos c s).Unreported n := by
  unfold positionBody
  split
  · exact h
  · split
    · exact h
    · exact (liftExcept_unreported h _).andThen fun _ scaled ht =>
        (sendLong_unreported ht _ c scaled).andThen fun _ u hu => noResult_unreported hu u

theorem setVoltBody_unreported (h : IdleWith n s) (num : Int) (den : Nat) (c : Chan) :
    (setVoltBody num den c s).Unreported n := by
  unfold setVoltBody
  split
  · exact h
  · exact (liftExcept_unreported h _).andThen fun _ scaled ht => sendLong_unreported ht _ c scaled

theorem rampSetPoints_unreported (h : IdleWith n s) (raw target : Int) (steps : Nat) (delayMs : Word32) (c : Chan)
    (k : Nat) : (rampSetPoints raw target steps delayMs c k s).Unreported n := by
  induction k generalizing s with
  | zero => exact setVoltBody_unreported h _ _ c
  | succ k ih => exact (setVoltBody_unreported h _ _ c).andThen fun _ _ ht => ih (ht.log rfl)

theorem rampBody_unreported (h : IdleWith n s) (target : Int) (steps : Nat) (delayMs : Word32) (x : Exchange)
    (c : Chan) : (rampBody target steps delayMs x c s).Unreported n :=
  (liftExcept_unreported h _).andThen fun _ _ ht =>
    (query_unreported ht _ c x).andThen fun _ _ hu => rampSetPoints_unreported hu _ _ _ _ c _

theorem shutdownFrom_unreported (h : IdleWith n s) (cs : List Chan) : (shutdownFrom cs s).Unreported n := by
  induction cs generalizing s with
  | nil => exact (closeTransport_unreported h).andThen fun _ _ ht => ht
  | cons c cs ih =>
    exact (setModeBody_unreported h c false).andThen fun _ _ ht =>
      (rampBody_unreported ht _ _ _ _ c).andThen fun _ _ hu => ih hu

end

/-! ### Meanings -/

/-- `t` has one report more than `s`, or as many while a read is in flight. -/
def ReportsOnce (s t : State) : Prop := reports t.history = reports s.history + if t.exchange = none then 1 else 0

section
variable {s t : State}

theorem reportsOnce_report {u : State} (h : IdleWith (reports s.history) u) (r : Except ErrorKind Result) :
    ReportsOnce s (report r u) := by
  rw [ReportsOnce, report_history, reports_append, reports_reportEvent, report_exchange, if_pos h.1, h.2]

theorem conclude_reportsOnce {r : Run Result} (hr : r.Unreported (reports s.history)) (h : conclude r = .next t) :
    ReportsOnce s t := by
  obtain ⟨u, a, rfl, rfl⟩ | ⟨u, e, rfl, rfl⟩ | rfl := conclude_next h
  · exact reportsOnce_report hr _
  · exact reportsOnce_report hr _
  · rw [ReportsOnce, if_neg hr.1, hr.2]
    rfl

theorem runCommand_reportsOnce {body : State → Run Result}
    (hbody : ∀ n, IdleWith n s → (body s).Unreported n) (h : runCommand s body = .next t) : ReportsOnce s t := by
  obtain ⟨ha, hrun⟩ := runCommand_next h
  exact conclude_reportsOnce (hbody _ ⟨ha.1, rfl⟩) hrun

theorem channelCommand_reportsOnce {ch : Byte} {body : Chan → State → Run Result}
    (hbody : ∀ n c, IdleWith n s → (body c s).Unreported n)
    (h : runCommand s (fun s => withChannel ch s body) = .next t) : ReportsOnce s t := by
  refine runCommand_reportsOnce (fun n hn => ?_) h
  unfold withChannel
  split
  · exact hbody n _ hn
  · exact hn

/-- A channel command that returns no value. -/
theorem writeCommand_reportsOnce {ch : Byte} {body : Chan → State → Run Unit}
    (hbody : ∀ n c, IdleWith n s → (body c s).Unreported n)
    (h : runCommand s (fun s => withChannel ch s fun c s => (body c s).andThen noResult) = .next t) :
    ReportsOnce s t :=
  channelCommand_reportsOnce (fun n c hn => (hbody n c hn).andThen fun _ u ht => noResult_unreported ht u) h

/-- A query and what it returns (R140). -/
theorem queryCommand_reportsOnce {ch : Byte} {opcode : Word16} {x : Chan → Exchange}
    {f : Chan → State → List Byte → Run Result} (hf : ∀ n c u raw, IdleWith n u → (f c u raw).Unreported n)
    (h : runCommand s (fun s => withChannel ch s fun c s => (query opcode c (x c) s).andThen (f c)) = .next t) :
    ReportsOnce s t :=
  channelCommand_reportsOnce (fun n c hn => (query_unreported hn _ c (x c)).andThen fun u raw => hf n c u raw) h

theorem answerUnit_reportsOnce {r : Except ErrorKind Result} (h : answerUnit s r = .next t) : ReportsOnce s t := by
  obtain ⟨hx, -, rfl⟩ := answerUnit_next h
  exact reportsOnce_report ⟨hx, rfl⟩ r

end

/-- Settles O53: the report comes after the pseudocode of a command, and alone in a function unit. -/
theorem exactlyOneReportPerCommand : Obligations.ExactlyOneReportPerCommand := by
  intro s t i hport h
  show ReportsOnce s t
  cases i with
  | frameIdentify | frameEnable | frameDisable | frameReqEnable | frameSetMode | frameReqMode | frameReqVolt
  | frameReqPos | frameZero | frameSetVolt | frameSetPos | reply6 | reply10 => cases hport
  | reserved0E | reserved0F | reserved1C | reserved1D | reserved1E | reserved1F => cases hport
  | identify => exact runCommand_reportsOnce (fun n hn => identifyBody_unreported hn) h
  | enable ch => exact writeCommand_reportsOnce (fun n c hn => enableBody_unreported hn c) h
  | disable ch => exact writeCommand_reportsOnce (fun n c hn => disableBody_unreported hn c) h
  | setMode ch closed => exact writeCommand_reportsOnce (fun n c hn => setModeBody_unreported hn c closed) h
  | zero ch => exact writeCommand_reportsOnce (fun n c hn => zeroBody_unreported hn c) h
  | setVolt ch volts => exact writeCommand_reportsOnce (fun n c hn => setVoltBody_unreported hn volts 1 c) h
  | rampVolt ch target steps delayMs =>
    exact writeCommand_reportsOnce (fun n c hn => rampBody_unreported hn target _ delayMs _ c) h
  | position ch pos => exact channelCommand_reportsOnce (fun n c hn => positionBody_unreported hn pos c) h
  | pollZero ch => exact queryCommand_reportsOnce (fun n c u raw hu => pollFinish_unreported hu c raw) h
  | getMode ch | getEnable ch | getPosition ch | getVolt ch =>
    refine queryCommand_reportsOnce (fun n c u raw hu => ?_) h
    exact hu
  | shutdown =>
    exact runCommand_reportsOnce (body := fun s => (shutdownFrom [.ch1, .ch2, .ch3] s).andThen noResult)
      (fun n hn => (shutdownFrom_unreported hn _).andThen fun _ u ht => noResult_unreported ht u) h
  | decodeRaw raw =>
    simp only [exec, execDecodeRaw] at h
    split at h
    · exact answerUnit_reportsOnce h
    · cases h
  | encodeShort | encodeLong | pos2Scaled | scaled2Pos | volt2Scaled | scaled2Volt | bayAddr | int2b1 | int2b2 | b2u16
  | b2i16 => exact answerUnit_reportsOnce h

end Sys2Proof.Machine
end

section
/-! SUPPORT. A block with nothing at its ports, a failure of the access in progress, and replies no read has asked for
(spec 60_exceptions R165, R168, R179). -/

namespace Sys2Proof.Machine

theorem step_of_nothing_idle {s : State} (h : s.inbox = []) (hx : s.exchange = none) : step s = .next s := by
  simp [step, h, hx]

theorem step_of_nothing_waiting {s : State} (h : s.inbox = []) (hx : s.exchange ≠ none) :
    step s = .fault .stuckInRxRead := by
  simp [step, h, Option.isSome_iff_ne_none.mpr hx]

theorem step_of_failAccess {s : State} {moved : Nat} {rest : List PortEvent} (h : s.inbox = .failAccess moved :: rest) :
    step s = failAccess moved (s.setInbox rest) := by
  simp only [step, h]

/-- Settles O4: by what stands at the ports, then by whether a read waits. -/
theorem hangsAndWhatLiftsThem : Obligations.HangsAndWhatLiftsThem := by
  refine fun s => ⟨fun hi => ⟨step_of_nothing_idle hi, fun x hx => step_of_nothing_waiting hi (by simp [hx])⟩,
    fun moved rest hi => ?_⟩
  rw [step_of_failAccess hi]
  obtain ⟨hidle, e⟩ | ⟨hwaits, e⟩ := failAccess_cases moved (s.setInbox rest)
  · exact ⟨fun x hx => absurd (hx.symm.trans hidle) (by simp), fun _ => e⟩
  · exact ⟨fun _ _ => by rw [e, ← List.drop_one]; rfl, fun hx => absurd hx hwaits⟩

/-- Settles O11: a reply is the arrival of its bytes, and with no read outstanding they wait. -/
theorem unaskedRepliesWaitInTheStream : Obligations.UnaskedRepliesWaitInTheStream :=
  fun s _ bs he hx => (exec_of_fromDevice he s).trans (arrive_idle hx bs)

end Sys2Proof.Machine
end

section
/-! SUPPORT. The reset input (spec 70_reset_and_hazards R185, R186, R187). -/

namespace Sys2Proof.Machine

theorem step_of_reset {s : State} {cfg : Config} {rest : List PortEvent} (h : s.inbox = .reset cfg :: rest) :
    step s = takeReset cfg (s.setInbox rest) := by
  simp only [step, h]

theorem verdictsToCome_eq (s : State) :
    verdictsToCome s = if s.exchange = none then s.verdicts else s.verdicts.drop 1 := by
  cases hx : s.exchange with
  | none => rw [verdictsToCome_idle hx, if_pos rfl]
  | some x => rw [verdictsToCome_waiting hx, if_neg (by simp), List.drop_one]

/-- Settles O2: a reset is taken with a legal configuration alone, and only the verdicts look at the read that waited. -/
theorem resetInputLoadsConfiguration : Obligations.ResetInputLoadsConfiguration := by
  intro s cfg rest h
  rw [step_of_reset h]
  obtain ⟨hl, e⟩ | ⟨hl, e⟩ := takeReset_cases cfg (s.setInbox rest)
  · refine ⟨fun _ => ?_, fun hn => absurd (hl.symm.trans hn) (by decide)⟩
    rw [e, resetBlock, verdictsToCome_eq]
    rfl
  · exact ⟨fun hy => absurd (hl.symm.trans hy) (by decide), fun _ => e⟩

end Sys2Proof.Machine
end
